-- ==== Sys2Proof/Word.lean ====
section
/-! DEFINITION. The words of the block (00_scope.md R6, R7): every quantity is an unsigned bit vector of a stated
width, bit 0 least significant. The types whose width the spec leaves OPEN are in Config. -/

namespace Sys2Proof

/-- A device register, a register address, an operand: 8 bits (`REG_W`, `CH_W`, R6). -/
abbrev Byte := BitVec 8

/-- A command word, format CMD18 (R60). -/
abbrev CmdWord := BitVec 18

/-- A bus frame, format BUS16: `[15:8]` register address, sent first, `[7:0]` value (R33, R66). -/
abbrev FrameWord := BitVec 16

/-- The step counter of a microsequence: `STEP_W` = 6 bits (R12). -/
abbrev MicroStep := BitVec 6

end Sys2Proof
end

