-- ==== Sys2Proof/Config.lean ====
section
/-! DEFINITION. What the hardware fixes and what it leaves open (00_scope.md R6): the register addresses and codes; the
OPEN widths as constants with no body, so that a claim holds whatever they are; the other OPEN parameters as a record
the model takes as an argument (a field of State, so that a claim holds for all their values); and the free values,
which nothing in Lean can evaluate. -/

namespace Sys2Proof

/-! Register addresses and codes, all fixed (R6). -/

abbrev aShutdown : Byte := 0x00
abbrev aPwmBase : Byte := 0x05
abbrev aUpdate : Byte := 0x25
abbrev aLedctlBase : Byte := 0x2A
abbrev aGlobalctl : Byte := 0x4A
abbrev aOutfreq : Byte := 0x4B
abbrev aReset : Byte := 0x4F

abbrev vNormal : Byte := 0x01
abbrev vShutdown : Byte := 0x00
abbrev vEnabled : Byte := 0x01
abbrev vDisabled : Byte := 0x00
abbrev vFreqLow : Byte := 0x00
abbrev vFreqHigh : Byte := 0x01
abbrev vGcrMax : Byte := 0x00

/-- `ADDR_W - 1`, the top bit of the port `cfg_address[ADDR_W-1:0]` (D3). `ADDR_W` is OPEN (R6, D4): log entry 6. -/
opaque Config.addrTop : Nat

/-- `ERR_W - 1`, the top bit of the port `bw_err[ERR_W-1:0]` (D3). `ERR_W` is OPEN, at least 1 (R6, D7): log entry 7. -/
opaque Config.errTop : Nat

/-- A device address on the bus: `ADDR_W` bits (R10, D4). -/
abbrev BusAddr := BitVec (Config.addrTop + 1)

/-- The transport's error value, `ERR_W` bits, non-empty and opaque: the block does nothing with it but pass it on (R132,
D7). -/
abbrev BusErr := BitVec (Config.errTop + 1)

/-- The OPEN parameters of R6 that are values, fixed for the machine: no step changes them. -/
structure Params where
  /-- The address DEV's physical strap gives it (R25, R176). -/
  strap : BusAddr
  /-- `UPDATE_VALUE`, the "fixed value" written to Update (D5). -/
  updateValue : Byte
  /-- `RESET_VALUE`, the value written to Reset, ignored by DEV (D6). -/
  resetValue : Byte
  /-- `DEFAULT_GCR`, the power-on default of GlobalControl; `none` is "no value" (D12). -/
  defaultGcr : Option Byte
  /-- `DEFAULT_OFR`, the power-on default of OutputFrequency; `none` is "no value" (D12). -/
  defaultOfr : Option Byte
deriving DecidableEq, Repr

/-- The power-on default of GlobalControl where `DEFAULT_GCR` has "no value": a free value (U2), log entry 5. -/
opaque Config.unstatedGcr : Byte

/-- The power-on default of OutputFrequency where `DEFAULT_OFR` has "no value": a free value (U2), log entry 5. -/
opaque Config.unstatedOfr : Byte

/-- The `n`-th free value, of any width: what the spec calls "unspecified" (R26, R83, U13), log entry 11. -/
opaque Config.freeBits : (w : Nat) → Nat → BitVec w

end Sys2Proof
end

