-- ==== Sys2Proof/Machine/State.lean ====
section
/-! DEFINITION. The state of the machine (10_state.md), its inputs and outputs as plain data, the reasons a step can stop,
and the state after reset (R26). -/

namespace Sys2Proof.Machine

/-- Why the machine is stuck. -/
inductive Fault where
  /-- Raised by ISSUE where the microprogram has no row for the step (R81: "`uop` is never evaluated" there). Safe: no
  state that meets `EngineOk` raises it. Log entry 23. -/
  | microprogramOverrun
deriving DecidableEq, Repr

/-- Why a run has no meaning. -/
inductive Refusal where
  /-- An instruction without a meaning yet. Safe. -/
  | notModelled (mnemonic : String)
  /-- Raised by the step that takes a delivered frame whose register address is not in the map (R44, U7). Safe. -/
  | unmappedRegister (reg : Byte)
  /-- Raised by W_UPDATE with a value other than `UPDATE_VALUE` (R39, U4). Safe. -/
  | updateValueUndefined (v : Byte)
  /-- Raised by CONSTRUCT while a command is in progress (R161, U14). Safe. -/
  | resetWhileBusy
deriving DecidableEq, Repr

/-- The opcode of a command (R62). -/
inductive Opcode where
  | powerOn
  | powerOff
  | setFrequency
  | setPwm
deriving DecidableEq, Repr

/-- BUS's answer to a frame (R31). -/
inductive BusAnswer where
  | ok
  | fail (e : BusErr)
deriving DecidableEq, Repr

/-- The result of a command (R14, R88). -/
inductive Result where
  | ok
  | paramErr
  | busErr (e : BusErr)
deriving DecidableEq, Repr

/-- What BUS holds: no transaction; a frame on its way with its target address; or the answer to a frame, which SEQ has
not taken yet (R31, R32). -/
inductive BusPhase where
  | quiet
  | carrying (dev : BusAddr) (frame : FrameWord)
  | answered (a : BusAnswer)
deriving DecidableEq, Repr

/-- What the world outside SEQ does next: BUS answers the frame it carries (R31), another bus actor's frame is delivered
(R51), DEV is powered on (R160 b), SEQ is constructed (R95, R160 a); or nothing yet, `later`: SEQ moves first, and what
stands behind happens later (log entry 2). -/
inductive EnvEvent where
  | answer (a : BusAnswer)
  | foreign (dev : BusAddr) (frame : FrameWord)
  | devPowerOn
  | construct (address : BusAddr)
  | later
deriving DecidableEq, Repr

/-- A frame SEQ issued, with its target address (R66). -/
structure Issued where
  dev : BusAddr
  frame : FrameWord
deriving DecidableEq, Repr

/-- The state of SEQ (R10 to R13). -/
structure Seq where
  /-- The device's bus address, written by CONSTRUCT alone (R10). -/
  address : BusAddr
  /-- A command is in progress (R11). -/
  busy : Bool
  /-- A frame has been issued and SEQ has not taken its answer (R11). -/
  pend : Bool
  /-- The opcode of the command in progress (R11). -/
  op : Opcode
  /-- The channel operand (R11). -/
  ch : Byte
  /-- The value operand (R11). -/
  val : Byte
  /-- The program counter of the block: the index of the frame to issue, or awaiting its answer (R12). -/
  step : MicroStep
deriving DecidableEq, Repr

/-- The state of DEV (R15 to R23). Entry `k` of an array belongs to channel `k + 1`. -/
structure Dev where
  /-- Shutdown, 0x00 (R16). -/
  sd : Byte
  /-- GlobalControl, 0x4A (R20). -/
  gcr : Byte
  /-- OutputFrequency, 0x4B (R21). -/
  ofr : Byte
  /-- `PWMs`, 0x05 .. 0x20 (R17). -/
  pwmStaged : Vector Byte 28
  /-- `PWMa` (R17). -/
  pwmActive : Vector Byte 28
  /-- `LCs`, 0x2A .. 0x45 (R19). -/
  ledStaged : Vector Byte 28
  /-- `LCa` (R19). -/
  ledActive : Vector Byte 28
deriving DecidableEq, Repr

/-- The whole machine. -/
structure State where
  seq : Seq
  dev : Dev
  bus : BusPhase
  /-- The words the caller still presents, each once the previous result has been returned (R70, R83). -/
  commands : List CmdWord
  /-- What BUS, other bus actors and the platform still do, in order (R25); log entry 2. -/
  env : List EnvEvent
  /-- The frames SEQ issued, oldest first (R14 a). No step reads it. -/
  trace : List Issued
  /-- BUS's answers to them, oldest first (R9). No step reads it. -/
  answers : List BusAnswer
  /-- The results of the commands that ended, oldest first (R14 b). No step reads it. -/
  results : List Result
  /-- The OPEN parameters; no step changes them. -/
  params : Params
  /-- How many free values have been drawn; log entry 11. -/
  draws : Nat
deriving DecidableEq, Repr

/-- SEQ just constructed and DEV just powered on (R26): idle, nothing presented, nothing on the bus. The values the spec
does not state are log entries 4, 5, 8, 9 and 10. -/
def State.reset : State where
  seq :=
    { address := 0, busy := false, pend := false, op := .powerOn, ch := 0x00#8, val := 0x00#8, step := 0#6 }
  dev :=
    { sd := 0x00#8, gcr := Config.unstatedGcr, ofr := Config.unstatedOfr
      pwmStaged := Vector.replicate 28 0x00#8, pwmActive := Vector.replicate 28 0x00#8
      ledStaged := Vector.replicate 28 0x00#8, ledActive := Vector.replicate 28 0x00#8 }
  bus := .quiet
  commands := []
  env := []
  trace := []
  answers := []
  results := []
  params :=
    { strap := 0, updateValue := 0x00#8, resetValue := 0x00#8, defaultGcr := none, defaultOfr := none }
  draws := 0

end Sys2Proof.Machine
end

