-- ==== Sys2Proof/Machine/Flags.lean ====
section
/-! DEFINITION. What can be seen of a state: DEV's mode and visible settings (20_memory.md R45), SEQ's port signals and
the result codes (60_exceptions.md R133). SEQ has no condition codes (R13); no instruction reads any of these. -/

namespace Sys2Proof.Machine

/-- DEV's operating mode (R16, R98). -/
inductive Mode where
  | shutdown
  | normal
deriving DecidableEq, Repr

/-- What LedControl says of a channel (R19). -/
inductive ChannelEnable where
  | disabled
  | enabled
deriving DecidableEq, Repr

/-- The output-stage setting of a channel (R45). -/
inductive Visible where
  | off
  | on (duty : Byte)
deriving DecidableEq, Repr

/-- The PWM carrier (R21). -/
inductive Carrier where
  | low
  | high
deriving DecidableEq, Repr

/-- The output-current scaling: the one setting the document defines (R20). -/
inductive Scaling where
  | maximum
deriving DecidableEq, Repr

/-- The mode is a function of the Shutdown register alone; `none` on a byte the document does not define (R16, U3). -/
def Dev.mode (d : Dev) : Option Mode :=
  if d.sd = vShutdown then some .shutdown
  else if d.sd = vNormal then some .normal
  else none

/-- What the active enable of channel `c + 1` says; `none` on a byte the document does not define (R19, U3). -/
def Dev.channelEnable (d : Dev) (c : Fin 28) : Option ChannelEnable :=
  if d.ledActive[c] = vDisabled then some .disabled
  else if d.ledActive[c] = vEnabled then some .enabled
  else none

/-- The visible setting of channel `c + 1`; `none` where the mode or the active enable is a byte the document does not
define, in Shutdown mode too (R45's last sentence, D20, U3; log entry 29). -/
def Dev.visible (d : Dev) (c : Fin 28) : Option Visible :=
  match d.mode, d.channelEnable c with
  | some .shutdown, some _ => some .off
  | some .normal, some .disabled => some .off
  | some .normal, some .enabled => some (.on d.pwmActive[c])
  | some _, none => none
  | none, _ => none

/-- The carrier, for all channels; `none` on a byte the document does not define (R41, U3). R45: "meaningful only in
Normal mode". -/
def Dev.carrier (d : Dev) : Option Carrier :=
  if d.ofr = vFreqLow then some .low
  else if d.ofr = vFreqHigh then some .high
  else none

/-- The current scaling; `none` on a byte the document does not define (R40, U3). -/
def Dev.scaling (d : Dev) : Option Scaling :=
  if d.gcr = vGcrMax then some .maximum else none

/-- The global visible settings, which have a meaning in Normal mode only (R45). -/
def Dev.globalVisible (d : Dev) : Option (Option Carrier × Option Scaling) :=
  match d.mode with
  | some .normal => some (d.carrier, d.scaling)
  | _ => none

/-- The byte stored at a register address: the staged copy of a latched register; `none` where nothing is stored (R15).
No agent reads it (R8: `MemRead` does not exist); claims do. -/
def Dev.storedAt (d : Dev) (reg : Byte) : Option Byte :=
  if reg = aShutdown then some d.sd
  else if h : aPwmBase.toNat ≤ reg.toNat ∧ reg.toNat < aPwmBase.toNat + 28 then
    some (d.pwmStaged[reg.toNat - aPwmBase.toNat]'(by omega))
  else if h : aLedctlBase.toNat ≤ reg.toNat ∧ reg.toNat < aLedctlBase.toNat + 28 then
    some (d.ledStaged[reg.toNat - aLedctlBase.toNat]'(by omega))
  else if reg = aGlobalctl then some d.gcr
  else if reg = aOutfreq then some d.ofr
  else none

/-- `status[1:0]` of a result (R133); 11 is never produced. -/
def Result.status (r : Result) : BitVec 2 :=
  match r with
  | .ok => 0b00#2
  | .paramErr => 0b01#2
  | .busErr _ => 0b10#2

/-- `err` of a result; `none` where it is unspecified (R133). -/
def Result.err (r : Result) : Option BusErr :=
  match r with
  | .busErr e => some e
  | .ok => none
  | .paramErr => none

/-- SEQ can take a command (D3: `cmd_ready`). -/
def State.cmdReady (s : State) : Bool := !s.seq.busy

/-- The target address and frame on the bus-write master port, while a frame is on its way (D3: `bw_valid`, `bw_dev`,
`bw_frame`). -/
def State.busWrite (s : State) : Option Issued :=
  match s.bus with
  | .carrying d f => some ⟨d, f⟩
  | .quiet => none
  | .answered _ => none

/-- The trace of R9: each issued frame with the answer BUS gave, `none` for the one still unanswered. -/
def State.answeredTrace (s : State) : List (Issued × Option BusAnswer) :=
  s.trace.zip (s.answers.map some ++ [none])

end Sys2Proof.Machine
end

