-- ==== Sys2Proof/Syntax.lean ====
section
/-! DEFINITION. The instructions: one constructor per row of spec/opcode_table.json, four commands of the caller to
SEQ (format CMD18, 30_encoding.md R62) and sixty-one frames to DEV (format BUS16, R67). A command carries all its
operand bits, the reserved ones too, so that no bit of a word is lost. -/

namespace Sys2Proof

inductive Instr where
  /-- `power_on()` (R96). `a`, `b` are the reserved operand bytes, which SEQ ignores (R63). -/
  | powerOn (a b : Byte)
  /-- `power_off()` (R97). `a`, `b` are the reserved operand bytes, which SEQ ignores (R63). -/
  | powerOff (a b : Byte)
  /-- `set_frequency(sel)` (R115): 0 low, 1 high. `a` and `rsv` = `b[7:1]` are reserved (R63). -/
  | setFrequency (a : Byte) (rsv : BitVec 7) (sel : BitVec 1)
  /-- `set_pwm(channel, value)` (R105). -/
  | setPwm (channel value : Byte)
  /-- Frame to Shutdown, 0x00 (R36). -/
  | wShutdown (v : Byte)
  /-- Frame to PWM[1], 0x05 (R37). -/
  | wPwm1 (v : Byte)
  /-- Frame to PWM[2], 0x06 (R37). -/
  | wPwm2 (v : Byte)
  /-- Frame to PWM[3], 0x07 (R37). -/
  | wPwm3 (v : Byte)
  /-- Frame to PWM[4], 0x08 (R37). -/
  | wPwm4 (v : Byte)
  /-- Frame to PWM[5], 0x09 (R37). -/
  | wPwm5 (v : Byte)
  /-- Frame to PWM[6], 0x0A (R37). -/
  | wPwm6 (v : Byte)
  /-- Frame to PWM[7], 0x0B (R37). -/
  | wPwm7 (v : Byte)
  /-- Frame to PWM[8], 0x0C (R37). -/
  | wPwm8 (v : Byte)
  /-- Frame to PWM[9], 0x0D (R37). -/
  | wPwm9 (v : Byte)
  /-- Frame to PWM[10], 0x0E (R37). -/
  | wPwm10 (v : Byte)
  /-- Frame to PWM[11], 0x0F (R37). -/
  | wPwm11 (v : Byte)
  /-- Frame to PWM[12], 0x10 (R37). -/
  | wPwm12 (v : Byte)
  /-- Frame to PWM[13], 0x11 (R37). -/
  | wPwm13 (v : Byte)
  /-- Frame to PWM[14], 0x12 (R37). -/
  | wPwm14 (v : Byte)
  /-- Frame to PWM[15], 0x13 (R37). -/
  | wPwm15 (v : Byte)
  /-- Frame to PWM[16], 0x14 (R37). -/
  | wPwm16 (v : Byte)
  /-- Frame to PWM[17], 0x15 (R37). -/
  | wPwm17 (v : Byte)
  /-- Frame to PWM[18], 0x16 (R37). -/
  | wPwm18 (v : Byte)
  /-- Frame to PWM[19], 0x17 (R37). -/
  | wPwm19 (v : Byte)
  /-- Frame to PWM[20], 0x18 (R37). -/
  | wPwm20 (v : Byte)
  /-- Frame to PWM[21], 0x19 (R37). -/
  | wPwm21 (v : Byte)
  /-- Frame to PWM[22], 0x1A (R37). -/
  | wPwm22 (v : Byte)
  /-- Frame to PWM[23], 0x1B (R37). -/
  | wPwm23 (v : Byte)
  /-- Frame to PWM[24], 0x1C (R37). -/
  | wPwm24 (v : Byte)
  /-- Frame to PWM[25], 0x1D (R37). -/
  | wPwm25 (v : Byte)
  /-- Frame to PWM[26], 0x1E (R37). -/
  | wPwm26 (v : Byte)
  /-- Frame to PWM[27], 0x1F (R37). -/
  | wPwm27 (v : Byte)
  /-- Frame to PWM[28], 0x20 (R37). -/
  | wPwm28 (v : Byte)
  /-- Frame to Update, 0x25 (R39). -/
  | wUpdate (v : Byte)
  /-- Frame to LedControl[1], 0x2A (R38). -/
  | wLedctl1 (v : Byte)
  /-- Frame to LedControl[2], 0x2B (R38). -/
  | wLedctl2 (v : Byte)
  /-- Frame to LedControl[3], 0x2C (R38). -/
  | wLedctl3 (v : Byte)
  /-- Frame to LedControl[4], 0x2D (R38). -/
  | wLedctl4 (v : Byte)
  /-- Frame to LedControl[5], 0x2E (R38). -/
  | wLedctl5 (v : Byte)
  /-- Frame to LedControl[6], 0x2F (R38). -/
  | wLedctl6 (v : Byte)
  /-- Frame to LedControl[7], 0x30 (R38). -/
  | wLedctl7 (v : Byte)
  /-- Frame to LedControl[8], 0x31 (R38). -/
  | wLedctl8 (v : Byte)
  /-- Frame to LedControl[9], 0x32 (R38). -/
  | wLedctl9 (v : Byte)
  /-- Frame to LedControl[10], 0x33 (R38). -/
  | wLedctl10 (v : Byte)
  /-- Frame to LedControl[11], 0x34 (R38). -/
  | wLedctl11 (v : Byte)
  /-- Frame to LedControl[12], 0x35 (R38). -/
  | wLedctl12 (v : Byte)
  /-- Frame to LedControl[13], 0x36 (R38). -/
  | wLedctl13 (v : Byte)
  /-- Frame to LedControl[14], 0x37 (R38). -/
  | wLedctl14 (v : Byte)
  /-- Frame to LedControl[15], 0x38 (R38). -/
  | wLedctl15 (v : Byte)
  /-- Frame to LedControl[16], 0x39 (R38). -/
  | wLedctl16 (v : Byte)
  /-- Frame to LedControl[17], 0x3A (R38). -/
  | wLedctl17 (v : Byte)
  /-- Frame to LedControl[18], 0x3B (R38). -/
  | wLedctl18 (v : Byte)
  /-- Frame to LedControl[19], 0x3C (R38). -/
  | wLedctl19 (v : Byte)
  /-- Frame to LedControl[20], 0x3D (R38). -/
  | wLedctl20 (v : Byte)
  /-- Frame to LedControl[21], 0x3E (R38). -/
  | wLedctl21 (v : Byte)
  /-- Frame to LedControl[22], 0x3F (R38). -/
  | wLedctl22 (v : Byte)
  /-- Frame to LedControl[23], 0x40 (R38). -/
  | wLedctl23 (v : Byte)
  /-- Frame to LedControl[24], 0x41 (R38). -/
  | wLedctl24 (v : Byte)
  /-- Frame to LedControl[25], 0x42 (R38). -/
  | wLedctl25 (v : Byte)
  /-- Frame to LedControl[26], 0x43 (R38). -/
  | wLedctl26 (v : Byte)
  /-- Frame to LedControl[27], 0x44 (R38). -/
  | wLedctl27 (v : Byte)
  /-- Frame to LedControl[28], 0x45 (R38). -/
  | wLedctl28 (v : Byte)
  /-- Frame to GlobalControl, 0x4A (R40). -/
  | wGlobalctl (v : Byte)
  /-- Frame to OutputFrequency, 0x4B (R41). -/
  | wOutfreq (v : Byte)
  /-- Frame to Reset, 0x4F (R42). -/
  | wReset (v : Byte)
deriving DecidableEq, Repr

end Sys2Proof
end

