-- ==== Sys2Proof/WellFormed.lean ====
section
/-! DEFINITION. Well-formed instructions: those a caller presents, with the reserved bits of the command word zero
("A caller presents them as zero", 30_encoding.md R63). SEQ ignores those bits, so the decoder accepts, and the machine
runs, a word that has them set (95_test_vectors.md 2.1). A SET_PWM channel outside 1..28 is well formed: SEQ
itself rejects it, with PARAM_ERR (R64). Every frame is well formed. -/

namespace Sys2Proof

def Instr.wellFormed (i : Instr) : Bool :=
  match i with
  | .powerOn a b => a == 0#8 && b == 0#8
  | .powerOff a b => a == 0#8 && b == 0#8
  | .setFrequency a rsv _ => a == 0#8 && rsv == 0#7
  | .setPwm _ _ => true
  | .wShutdown _ => true
  | .wPwm1 _ => true
  | .wPwm2 _ => true
  | .wPwm3 _ => true
  | .wPwm4 _ => true
  | .wPwm5 _ => true
  | .wPwm6 _ => true
  | .wPwm7 _ => true
  | .wPwm8 _ => true
  | .wPwm9 _ => true
  | .wPwm10 _ => true
  | .wPwm11 _ => true
  | .wPwm12 _ => true
  | .wPwm13 _ => true
  | .wPwm14 _ => true
  | .wPwm15 _ => true
  | .wPwm16 _ => true
  | .wPwm17 _ => true
  | .wPwm18 _ => true
  | .wPwm19 _ => true
  | .wPwm20 _ => true
  | .wPwm21 _ => true
  | .wPwm22 _ => true
  | .wPwm23 _ => true
  | .wPwm24 _ => true
  | .wPwm25 _ => true
  | .wPwm26 _ => true
  | .wPwm27 _ => true
  | .wPwm28 _ => true
  | .wUpdate _ => true
  | .wLedctl1 _ => true
  | .wLedctl2 _ => true
  | .wLedctl3 _ => true
  | .wLedctl4 _ => true
  | .wLedctl5 _ => true
  | .wLedctl6 _ => true
  | .wLedctl7 _ => true
  | .wLedctl8 _ => true
  | .wLedctl9 _ => true
  | .wLedctl10 _ => true
  | .wLedctl11 _ => true
  | .wLedctl12 _ => true
  | .wLedctl13 _ => true
  | .wLedctl14 _ => true
  | .wLedctl15 _ => true
  | .wLedctl16 _ => true
  | .wLedctl17 _ => true
  | .wLedctl18 _ => true
  | .wLedctl19 _ => true
  | .wLedctl20 _ => true
  | .wLedctl21 _ => true
  | .wLedctl22 _ => true
  | .wLedctl23 _ => true
  | .wLedctl24 _ => true
  | .wLedctl25 _ => true
  | .wLedctl26 _ => true
  | .wLedctl27 _ => true
  | .wLedctl28 _ => true
  | .wGlobalctl _ => true
  | .wOutfreq _ => true
  | .wReset _ => true

end Sys2Proof
end

