-- ==== Sys2Proof/Decode.lean ====
section
/-! DEFINITION. Words to instructions and back (30_encoding.md). A word arrives at one of two ports, each with one format
of fixed length (R69): a command word at SEQ's command port, a frame at DEV. -/

namespace Sys2Proof

/-- A word as it arrives: an 18-bit command (R60) or a 16-bit frame (R66). -/
inductive Raw where
  | cmd18 (w : CmdWord)
  | bus16 (w : FrameWord)
deriving DecidableEq, Repr

/-- Why a word stands for no instruction. -/
inductive DecodeError where
  /-- The frame's register address is not in the map (R44, D15). -/
  | unmapped (reg : Byte)
deriving DecidableEq, Repr

/-- The frame word of a register address and a value (R33): byte 0 is `[15:8]`, byte 1 is `[7:0]`. -/
def frameWord (reg v : Byte) : FrameWord := reg ++ v

/-- `frame[15:8]`, the register address (R66). -/
def frameReg (f : FrameWord) : Byte := f.extractLsb' 8 8

/-- `frame[7:0]`, the value (R66). -/
def frameVal (f : FrameWord) : Byte := f.extractLsb' 0 8

/-- The command word `{op, a, b}` (R60). -/
def cmdWord (op : BitVec 2) (a b : Byte) : CmdWord := op ++ a ++ b

/-- `cmd[17:16]`, the opcode (R60). -/
def cmdOp (w : CmdWord) : BitVec 2 := w.extractLsb' 16 2

/-- `cmd[15:8]`, operand A (R60). -/
def cmdA (w : CmdWord) : Byte := w.extractLsb' 8 8

/-- `cmd[7:0]`, operand B (R60). -/
def cmdB (w : CmdWord) : Byte := w.extractLsb' 0 8

/-- The opcode map of R62: all four opcodes are used, so every command word decodes. -/
def decodeCommand (w : CmdWord) : Instr :=
  match cmdOp w with
  | 0b00#2 => .powerOn (cmdA w) (cmdB w)
  | 0b01#2 => .powerOff (cmdA w) (cmdB w)
  | 0b10#2 => .setFrequency (cmdA w) ((cmdB w).extractLsb' 1 7) ((cmdB w).extractLsb' 0 1)
  | 0b11#2 => .setPwm (cmdA w) (cmdB w)

/-- The register-address map of R67: the register address selects the instruction, the value is its operand;
`none` for an address outside the map (R44). -/
def frameInstr (reg v : Byte) : Option Instr :=
  match reg with
  | 0x00#8 => some (.wShutdown v)
  | 0x05#8 => some (.wPwm1 v)
  | 0x06#8 => some (.wPwm2 v)
  | 0x07#8 => some (.wPwm3 v)
  | 0x08#8 => some (.wPwm4 v)
  | 0x09#8 => some (.wPwm5 v)
  | 0x0A#8 => some (.wPwm6 v)
  | 0x0B#8 => some (.wPwm7 v)
  | 0x0C#8 => some (.wPwm8 v)
  | 0x0D#8 => some (.wPwm9 v)
  | 0x0E#8 => some (.wPwm10 v)
  | 0x0F#8 => some (.wPwm11 v)
  | 0x10#8 => some (.wPwm12 v)
  | 0x11#8 => some (.wPwm13 v)
  | 0x12#8 => some (.wPwm14 v)
  | 0x13#8 => some (.wPwm15 v)
  | 0x14#8 => some (.wPwm16 v)
  | 0x15#8 => some (.wPwm17 v)
  | 0x16#8 => some (.wPwm18 v)
  | 0x17#8 => some (.wPwm19 v)
  | 0x18#8 => some (.wPwm20 v)
  | 0x19#8 => some (.wPwm21 v)
  | 0x1A#8 => some (.wPwm22 v)
  | 0x1B#8 => some (.wPwm23 v)
  | 0x1C#8 => some (.wPwm24 v)
  | 0x1D#8 => some (.wPwm25 v)
  | 0x1E#8 => some (.wPwm26 v)
  | 0x1F#8 => some (.wPwm27 v)
  | 0x20#8 => some (.wPwm28 v)
  | 0x25#8 => some (.wUpdate v)
  | 0x2A#8 => some (.wLedctl1 v)
  | 0x2B#8 => some (.wLedctl2 v)
  | 0x2C#8 => some (.wLedctl3 v)
  | 0x2D#8 => some (.wLedctl4 v)
  | 0x2E#8 => some (.wLedctl5 v)
  | 0x2F#8 => some (.wLedctl6 v)
  | 0x30#8 => some (.wLedctl7 v)
  | 0x31#8 => some (.wLedctl8 v)
  | 0x32#8 => some (.wLedctl9 v)
  | 0x33#8 => some (.wLedctl10 v)
  | 0x34#8 => some (.wLedctl11 v)
  | 0x35#8 => some (.wLedctl12 v)
  | 0x36#8 => some (.wLedctl13 v)
  | 0x37#8 => some (.wLedctl14 v)
  | 0x38#8 => some (.wLedctl15 v)
  | 0x39#8 => some (.wLedctl16 v)
  | 0x3A#8 => some (.wLedctl17 v)
  | 0x3B#8 => some (.wLedctl18 v)
  | 0x3C#8 => some (.wLedctl19 v)
  | 0x3D#8 => some (.wLedctl20 v)
  | 0x3E#8 => some (.wLedctl21 v)
  | 0x3F#8 => some (.wLedctl22 v)
  | 0x40#8 => some (.wLedctl23 v)
  | 0x41#8 => some (.wLedctl24 v)
  | 0x42#8 => some (.wLedctl25 v)
  | 0x43#8 => some (.wLedctl26 v)
  | 0x44#8 => some (.wLedctl27 v)
  | 0x45#8 => some (.wLedctl28 v)
  | 0x4A#8 => some (.wGlobalctl v)
  | 0x4B#8 => some (.wOutfreq v)
  | 0x4F#8 => some (.wReset v)
  | _ => none

def decodeFrame (f : FrameWord) : Except DecodeError Instr :=
  match frameInstr (frameReg f) (frameVal f) with
  | some i => .ok i
  | none => .error (.unmapped (frameReg f))

/-- The instruction a word stands for, or why it stands for none: total. -/
def decode (r : Raw) : Except DecodeError Instr :=
  match r with
  | .cmd18 w => .ok (decodeCommand w)
  | .bus16 w => decodeFrame w

/-- The word of an instruction, from the encodings of R62 and R67. -/
def encode (i : Instr) : Raw :=
  match i with
  | .powerOn a b => .cmd18 (cmdWord 0b00#2 a b)
  | .powerOff a b => .cmd18 (cmdWord 0b01#2 a b)
  | .setFrequency a rsv sel => .cmd18 (cmdWord 0b10#2 a (rsv ++ sel))
  | .setPwm channel value => .cmd18 (cmdWord 0b11#2 channel value)
  | .wShutdown v => .bus16 (frameWord 0x00 v)
  | .wPwm1 v => .bus16 (frameWord 0x05 v)
  | .wPwm2 v => .bus16 (frameWord 0x06 v)
  | .wPwm3 v => .bus16 (frameWord 0x07 v)
  | .wPwm4 v => .bus16 (frameWord 0x08 v)
  | .wPwm5 v => .bus16 (frameWord 0x09 v)
  | .wPwm6 v => .bus16 (frameWord 0x0A v)
  | .wPwm7 v => .bus16 (frameWord 0x0B v)
  | .wPwm8 v => .bus16 (frameWord 0x0C v)
  | .wPwm9 v => .bus16 (frameWord 0x0D v)
  | .wPwm10 v => .bus16 (frameWord 0x0E v)
  | .wPwm11 v => .bus16 (frameWord 0x0F v)
  | .wPwm12 v => .bus16 (frameWord 0x10 v)
  | .wPwm13 v => .bus16 (frameWord 0x11 v)
  | .wPwm14 v => .bus16 (frameWord 0x12 v)
  | .wPwm15 v => .bus16 (frameWord 0x13 v)
  | .wPwm16 v => .bus16 (frameWord 0x14 v)
  | .wPwm17 v => .bus16 (frameWord 0x15 v)
  | .wPwm18 v => .bus16 (frameWord 0x16 v)
  | .wPwm19 v => .bus16 (frameWord 0x17 v)
  | .wPwm20 v => .bus16 (frameWord 0x18 v)
  | .wPwm21 v => .bus16 (frameWord 0x19 v)
  | .wPwm22 v => .bus16 (frameWord 0x1A v)
  | .wPwm23 v => .bus16 (frameWord 0x1B v)
  | .wPwm24 v => .bus16 (frameWord 0x1C v)
  | .wPwm25 v => .bus16 (frameWord 0x1D v)
  | .wPwm26 v => .bus16 (frameWord 0x1E v)
  | .wPwm27 v => .bus16 (frameWord 0x1F v)
  | .wPwm28 v => .bus16 (frameWord 0x20 v)
  | .wUpdate v => .bus16 (frameWord 0x25 v)
  | .wLedctl1 v => .bus16 (frameWord 0x2A v)
  | .wLedctl2 v => .bus16 (frameWord 0x2B v)
  | .wLedctl3 v => .bus16 (frameWord 0x2C v)
  | .wLedctl4 v => .bus16 (frameWord 0x2D v)
  | .wLedctl5 v => .bus16 (frameWord 0x2E v)
  | .wLedctl6 v => .bus16 (frameWord 0x2F v)
  | .wLedctl7 v => .bus16 (frameWord 0x30 v)
  | .wLedctl8 v => .bus16 (frameWord 0x31 v)
  | .wLedctl9 v => .bus16 (frameWord 0x32 v)
  | .wLedctl10 v => .bus16 (frameWord 0x33 v)
  | .wLedctl11 v => .bus16 (frameWord 0x34 v)
  | .wLedctl12 v => .bus16 (frameWord 0x35 v)
  | .wLedctl13 v => .bus16 (frameWord 0x36 v)
  | .wLedctl14 v => .bus16 (frameWord 0x37 v)
  | .wLedctl15 v => .bus16 (frameWord 0x38 v)
  | .wLedctl16 v => .bus16 (frameWord 0x39 v)
  | .wLedctl17 v => .bus16 (frameWord 0x3A v)
  | .wLedctl18 v => .bus16 (frameWord 0x3B v)
  | .wLedctl19 v => .bus16 (frameWord 0x3C v)
  | .wLedctl20 v => .bus16 (frameWord 0x3D v)
  | .wLedctl21 v => .bus16 (frameWord 0x3E v)
  | .wLedctl22 v => .bus16 (frameWord 0x3F v)
  | .wLedctl23 v => .bus16 (frameWord 0x40 v)
  | .wLedctl24 v => .bus16 (frameWord 0x41 v)
  | .wLedctl25 v => .bus16 (frameWord 0x42 v)
  | .wLedctl26 v => .bus16 (frameWord 0x43 v)
  | .wLedctl27 v => .bus16 (frameWord 0x44 v)
  | .wLedctl28 v => .bus16 (frameWord 0x45 v)
  | .wGlobalctl v => .bus16 (frameWord 0x4A v)
  | .wOutfreq v => .bus16 (frameWord 0x4B v)
  | .wReset v => .bus16 (frameWord 0x4F v)

/-- A word as a number, bit 0 least significant (R7). -/
def Raw.toNat (r : Raw) : Nat :=
  match r with
  | .cmd18 w => w.toNat
  | .bus16 w => w.toNat

/-- A word of spec/opcode_table.json given as a number with the width of its row: 16 bits is a frame; 18 bits, or
the 24 bits of three whole bytes with the six bits above the word zero, is a command; a word of any other length stands
for none. The spec packs no command into bytes: DESIGN CHOICE, log entry 22. -/
def Raw.ofTable (nbits w : Nat) : Option Raw :=
  if nbits = 16 ∧ w < 2 ^ 16 then some (.bus16 (BitVec.ofNat 16 w))
  else if (nbits = 18 ∨ nbits = 24) ∧ w < 2 ^ 18 then some (.cmd18 (BitVec.ofNat 18 w))
  else none

/-- What the decoder reads from a word of the opcode table. -/
def decodeTableWord (nbits w : Nat) : Option Instr :=
  match Raw.ofTable nbits w with
  | some r => (decode r).toOption
  | none => none

/-- Match and mask of an instruction's row in spec/opcode_table.json (R62, R67), and its width in bits. -/
structure TableEntry where
  width : Nat
  matchBits : Nat
  mask : Nat
deriving DecidableEq, Repr

/-- The row of spec/opcode_table.json each instruction belongs to. -/
def tableEntry (i : Instr) : TableEntry :=
  match i with
  | .powerOn _ _ => ⟨18, 0x00000, 0x30000⟩
  | .powerOff _ _ => ⟨18, 0x10000, 0x30000⟩
  | .setFrequency _ _ _ => ⟨18, 0x20000, 0x30000⟩
  | .setPwm _ _ => ⟨18, 0x30000, 0x30000⟩
  | .wShutdown _ => ⟨16, 0x0000, 0xFF00⟩
  | .wPwm1 _ => ⟨16, 0x0500, 0xFF00⟩
  | .wPwm2 _ => ⟨16, 0x0600, 0xFF00⟩
  | .wPwm3 _ => ⟨16, 0x0700, 0xFF00⟩
  | .wPwm4 _ => ⟨16, 0x0800, 0xFF00⟩
  | .wPwm5 _ => ⟨16, 0x0900, 0xFF00⟩
  | .wPwm6 _ => ⟨16, 0x0A00, 0xFF00⟩
  | .wPwm7 _ => ⟨16, 0x0B00, 0xFF00⟩
  | .wPwm8 _ => ⟨16, 0x0C00, 0xFF00⟩
  | .wPwm9 _ => ⟨16, 0x0D00, 0xFF00⟩
  | .wPwm10 _ => ⟨16, 0x0E00, 0xFF00⟩
  | .wPwm11 _ => ⟨16, 0x0F00, 0xFF00⟩
  | .wPwm12 _ => ⟨16, 0x1000, 0xFF00⟩
  | .wPwm13 _ => ⟨16, 0x1100, 0xFF00⟩
  | .wPwm14 _ => ⟨16, 0x1200, 0xFF00⟩
  | .wPwm15 _ => ⟨16, 0x1300, 0xFF00⟩
  | .wPwm16 _ => ⟨16, 0x1400, 0xFF00⟩
  | .wPwm17 _ => ⟨16, 0x1500, 0xFF00⟩
  | .wPwm18 _ => ⟨16, 0x1600, 0xFF00⟩
  | .wPwm19 _ => ⟨16, 0x1700, 0xFF00⟩
  | .wPwm20 _ => ⟨16, 0x1800, 0xFF00⟩
  | .wPwm21 _ => ⟨16, 0x1900, 0xFF00⟩
  | .wPwm22 _ => ⟨16, 0x1A00, 0xFF00⟩
  | .wPwm23 _ => ⟨16, 0x1B00, 0xFF00⟩
  | .wPwm24 _ => ⟨16, 0x1C00, 0xFF00⟩
  | .wPwm25 _ => ⟨16, 0x1D00, 0xFF00⟩
  | .wPwm26 _ => ⟨16, 0x1E00, 0xFF00⟩
  | .wPwm27 _ => ⟨16, 0x1F00, 0xFF00⟩
  | .wPwm28 _ => ⟨16, 0x2000, 0xFF00⟩
  | .wUpdate _ => ⟨16, 0x2500, 0xFF00⟩
  | .wLedctl1 _ => ⟨16, 0x2A00, 0xFF00⟩
  | .wLedctl2 _ => ⟨16, 0x2B00, 0xFF00⟩
  | .wLedctl3 _ => ⟨16, 0x2C00, 0xFF00⟩
  | .wLedctl4 _ => ⟨16, 0x2D00, 0xFF00⟩
  | .wLedctl5 _ => ⟨16, 0x2E00, 0xFF00⟩
  | .wLedctl6 _ => ⟨16, 0x2F00, 0xFF00⟩
  | .wLedctl7 _ => ⟨16, 0x3000, 0xFF00⟩
  | .wLedctl8 _ => ⟨16, 0x3100, 0xFF00⟩
  | .wLedctl9 _ => ⟨16, 0x3200, 0xFF00⟩
  | .wLedctl10 _ => ⟨16, 0x3300, 0xFF00⟩
  | .wLedctl11 _ => ⟨16, 0x3400, 0xFF00⟩
  | .wLedctl12 _ => ⟨16, 0x3500, 0xFF00⟩
  | .wLedctl13 _ => ⟨16, 0x3600, 0xFF00⟩
  | .wLedctl14 _ => ⟨16, 0x3700, 0xFF00⟩
  | .wLedctl15 _ => ⟨16, 0x3800, 0xFF00⟩
  | .wLedctl16 _ => ⟨16, 0x3900, 0xFF00⟩
  | .wLedctl17 _ => ⟨16, 0x3A00, 0xFF00⟩
  | .wLedctl18 _ => ⟨16, 0x3B00, 0xFF00⟩
  | .wLedctl19 _ => ⟨16, 0x3C00, 0xFF00⟩
  | .wLedctl20 _ => ⟨16, 0x3D00, 0xFF00⟩
  | .wLedctl21 _ => ⟨16, 0x3E00, 0xFF00⟩
  | .wLedctl22 _ => ⟨16, 0x3F00, 0xFF00⟩
  | .wLedctl23 _ => ⟨16, 0x4000, 0xFF00⟩
  | .wLedctl24 _ => ⟨16, 0x4100, 0xFF00⟩
  | .wLedctl25 _ => ⟨16, 0x4200, 0xFF00⟩
  | .wLedctl26 _ => ⟨16, 0x4300, 0xFF00⟩
  | .wLedctl27 _ => ⟨16, 0x4400, 0xFF00⟩
  | .wLedctl28 _ => ⟨16, 0x4500, 0xFF00⟩
  | .wGlobalctl _ => ⟨16, 0x4A00, 0xFF00⟩
  | .wOutfreq _ => ⟨16, 0x4B00, 0xFF00⟩
  | .wReset _ => ⟨16, 0x4F00, 0xFF00⟩

/-- The width of a word, from its format (R69). -/
def Raw.width (r : Raw) : Nat :=
  match r with
  | .cmd18 _ => 18
  | .bus16 _ => 16

end Sys2Proof
end

