-- ==== Sys2Proof/Machine/Operands.lean ====
section
/-! DEFINITION. Operand assembly (30_encoding.md R65), the parameter check (R83) and the microprogram (40_engine.md
R81, R82): pure functions, no state. -/

namespace Sys2Proof.Machine

/-- The opcode bits `cmd[17:16]` of a command (R62). -/
def opcodeBits (op : Opcode) : BitVec 2 :=
  match op with
  | .powerOn => 0b00#2
  | .powerOff => 0b01#2
  | .setFrequency => 0b10#2
  | .setPwm => 0b11#2

/-- The opcode of two bits; all four values are used (R62). -/
def opcodeOfBits (b : BitVec 2) : Opcode :=
  match b with
  | 0b00#2 => .powerOn
  | 0b01#2 => .powerOff
  | 0b10#2 => .setFrequency
  | 0b11#2 => .setPwm

/-- `1 ≤ a ≤ 28`, unsigned on 8 bits: the only check SEQ makes (R64, R83, R91). -/
def channelOk (a : Byte) : Bool := 1 ≤ a.toNat && a.toNat ≤ 28

/-- `0x05 + (channel - 1)` on 8 bits (R65). -/
def pwmReg (channel : Byte) : Byte := aPwmBase + (channel - 1)

/-- `0x2A + (step - 2)` on 8 bits (R65). -/
def ledctlReg (step : MicroStep) : Byte := aLedctlBase + (step.setWidth 8 - 2)

/-- `zext_8(sel)` (R115). -/
def selByte (sel : BitVec 1) : Byte := sel.setWidth 8

/-- The microprogram `uop(op, step, ch, val)`, as the frame of the step; `none` for the pairs the table has no row for, at
which it "is never evaluated" (R81). -/
def uop (p : Params) (op : Opcode) (step : MicroStep) (ch val : Byte) : Option FrameWord :=
  match op with
  | .powerOn =>
    if step.toNat = 0 then some (frameWord aReset p.resetValue)
    else if step.toNat = 1 then some (frameWord aShutdown vNormal)
    else if step.toNat ≤ 29 then some (frameWord (ledctlReg step) vEnabled)
    else if step.toNat = 30 then some (frameWord aUpdate p.updateValue)
    else if step.toNat = 31 then some (frameWord aGlobalctl vGcrMax)
    else none
  | .powerOff => if step.toNat = 0 then some (frameWord aShutdown vShutdown) else none
  | .setFrequency => if step.toNat = 0 then some (frameWord aOutfreq val) else none
  | .setPwm =>
    if step.toNat = 0 then some (frameWord (pwmReg ch) val)
    else if step.toNat = 1 then some (frameWord aUpdate p.updateValue)
    else none

/-- `last(op)`: the index of the final step (R82). -/
def lastStep (op : Opcode) : MicroStep :=
  match op with
  | .powerOn => 31#6
  | .powerOff => 0#6
  | .setFrequency => 0#6
  | .setPwm => 1#6

end Sys2Proof.Machine
end

