-- ==== Sys2Proof/Machine/Ops.lean ====
section
/-! DEFINITION. The named operations over registers: what a delivered frame does to DEV (20_memory.md R36 to R43), how a
command is accepted and how it ends (40_engine.md R83, R86 to R88). An error is the result of a command, reported by the
one operation `endCommand`; there is no handler and so no return from one (60_exceptions.md R136, R139). -/

namespace Sys2Proof.Machine

/-- The outcome of an event of this machine. -/
abbrev Step := Host.Outcome State Fault Refusal

/-! Effects on DEV. -/

/-- `DEFAULT_GCR`; a free value where it has "no value" (R20, U2). -/
def gcrDefault (p : Params) : Byte := p.defaultGcr.getD Config.unstatedGcr

/-- `DEFAULT_OFR`; a free value where it has "no value" (R21, U2). -/
def ofrDefault (p : Params) : Byte := p.defaultOfr.getD Config.unstatedOfr

/-- DEV's power-on defaults, both copies of the latched registers cleared (R26, R42, D13; log entry 15). -/
def devDefaults (p : Params) : Dev :=
  { sd := vShutdown, gcr := gcrDefault p, ofr := ofrDefault p
    pwmStaged := Vector.replicate 28 0x00#8, pwmActive := Vector.replicate 28 0x00#8
    ledStaged := Vector.replicate 28 vDisabled, ledActive := Vector.replicate 28 vDisabled }

/-- `SD <- v` (R36). -/
def Dev.writeShutdown (d : Dev) (v : Byte) : Dev := { d with sd := v }

/-- `PWMs[k + 1] <- v` (R37), in either mode (R43, D14; log entry 13). -/
def Dev.stagePwm (d : Dev) (k : Fin 28) (v : Byte) : Dev := { d with pwmStaged := d.pwmStaged.set k v }

/-- `LCs[k + 1] <- v` (R38), in either mode (R43, D14; log entry 13). -/
def Dev.stageLed (d : Dev) (k : Fin 28) (v : Byte) : Dev := { d with ledStaged := d.ledStaged.set k v }

/-- The latch: every active copy takes its staged copy, in one action (R39). -/
def Dev.latch (d : Dev) : Dev := { d with pwmActive := d.pwmStaged, ledActive := d.ledStaged }

/-- `GCR <- v`, effective when delivered (R40, D11; log entry 14). -/
def Dev.writeGlobalctl (d : Dev) (v : Byte) : Dev := { d with gcr := v }

/-- `OFR <- v`, effective when delivered (R41). -/
def Dev.writeOutfreq (d : Dev) (v : Byte) : Dev := { d with ofr := v }

/-- The state with DEV as given and nothing else changed. -/
def State.setDev (s : State) (d : Dev) : State := { s with dev := d }

/-- The effect of a delivered frame: DEV alone changes. -/
def commitDev (d : Dev) (s : State) : Step := .next (s.setDev d)

/-- A write to Update: the latch for `UPDATE_VALUE`; for any other value the document defines nothing (R39, U4; log
entry 17). -/
def writeUpdate (v : Byte) (s : State) : Step :=
  if v = s.params.updateValue then commitDev s.dev.latch s else .refused (.updateValueUndefined v)

/-! Effects on SEQ. -/

/-- The state with SEQ as given and nothing else changed. -/
def State.setSeq (s : State) (q : Seq) : State := { s with seq := q }

/-- The state with the result of a command reported (R88). -/
def State.report (s : State) (r : Result) : State := { s with results := s.results ++ [r] }

/-- The end of a command: SEQ is idle and the result is reported, in one event (R86, R87, R88, R131, R136). -/
def endCommand (r : Result) (s : State) : State :=
  (s.setSeq { s.seq with busy := false, pend := false }).report r

/-- `n` free values have been drawn. -/
def State.drew (s : State) (n : Nat) : State := { s with draws := s.draws + n }

/-- The state after ACCEPT (R83). -/
def accepted (op : Opcode) (a val : Byte) (s : State) : State :=
  s.setSeq { s.seq with op := op, ch := a, val := val, step := 0#6, pend := false, busy := true }

/-- A command is taken up only while SEQ is idle; otherwise it is not accepted, and nothing changes (R83, D21; log
entry 24). -/
def acceptWhenIdle (t : State) (s : State) : Step := if s.seq.busy then .next s else .next t

/-- CONSTRUCT: the address is loaded and SEQ is idle; `op`, `ch`, `val` and `step` are unspecified (R26, R95; log
entry 11). While a command is in progress it has no meaning (R161). Where an instance has run before, what it left in
`trace`, `answers`, `results` and `commands` stays: DESIGN CHOICE, log entry 19. -/
def construct (address : BusAddr) (s : State) : Step :=
  if s.seq.busy then .refused .resetWhileBusy
  else
    .next ((s.setSeq
      { address := address, busy := false, pend := false
        op := opcodeOfBits (Config.freeBits 2 s.draws), ch := Config.freeBits 8 (s.draws + 1)
        val := Config.freeBits 8 (s.draws + 2), step := Config.freeBits 6 (s.draws + 3) }).drew 4)

end Sys2Proof.Machine
end

