-- ==== Sys2Proof/Machine/ControlRegs.lean ====
section
/-! DEFINITION. The control-register updater (43_control_regs.md): SET_FREQUENCY, OutputFrequency, GlobalControl and the
LedControl registers. -/

namespace Sys2Proof.Machine

/-- SET_FREQUENCY (R115): accepted with `ch <- a` and `val <- zext_8(sel)` (R83). The reserved `rsv` is ignored (R63). -/
def execSetFrequency (a : Byte) (_rsv : BitVec 7) (sel : BitVec 1) (s : State) : Step :=
  acceptWhenIdle (accepted .setFrequency a (selByte sel) s) s

/-- W_GLOBALCTL (R40). -/
def execWGlobalctl (v : Byte) (s : State) : Step := commitDev (s.dev.writeGlobalctl v) s

/-- W_OUTFREQ (R41). -/
def execWOutfreq (v : Byte) (s : State) : Step := commitDev (s.dev.writeOutfreq v) s

/-- W_LEDCTL1 (R38). -/
def execWLedctl1 (v : Byte) (s : State) : Step := commitDev (s.dev.stageLed 0 v) s

/-- W_LEDCTL2 (R38). -/
def execWLedctl2 (v : Byte) (s : State) : Step := commitDev (s.dev.stageLed 1 v) s

/-- W_LEDCTL3 (R38). -/
def execWLedctl3 (v : Byte) (s : State) : Step := commitDev (s.dev.stageLed 2 v) s

/-- W_LEDCTL4 (R38). -/
def execWLedctl4 (v : Byte) (s : State) : Step := commitDev (s.dev.stageLed 3 v) s

/-- W_LEDCTL5 (R38). -/
def execWLedctl5 (v : Byte) (s : State) : Step := commitDev (s.dev.stageLed 4 v) s

/-- W_LEDCTL6 (R38). -/
def execWLedctl6 (v : Byte) (s : State) : Step := commitDev (s.dev.stageLed 5 v) s

/-- W_LEDCTL7 (R38). -/
def execWLedctl7 (v : Byte) (s : State) : Step := commitDev (s.dev.stageLed 6 v) s

/-- W_LEDCTL8 (R38). -/
def execWLedctl8 (v : Byte) (s : State) : Step := commitDev (s.dev.stageLed 7 v) s

/-- W_LEDCTL9 (R38). -/
def execWLedctl9 (v : Byte) (s : State) : Step := commitDev (s.dev.stageLed 8 v) s

/-- W_LEDCTL10 (R38). -/
def execWLedctl10 (v : Byte) (s : State) : Step := commitDev (s.dev.stageLed 9 v) s

/-- W_LEDCTL11 (R38). -/
def execWLedctl11 (v : Byte) (s : State) : Step := commitDev (s.dev.stageLed 10 v) s

/-- W_LEDCTL12 (R38). -/
def execWLedctl12 (v : Byte) (s : State) : Step := commitDev (s.dev.stageLed 11 v) s

/-- W_LEDCTL13 (R38). -/
def execWLedctl13 (v : Byte) (s : State) : Step := commitDev (s.dev.stageLed 12 v) s

/-- W_LEDCTL14 (R38). -/
def execWLedctl14 (v : Byte) (s : State) : Step := commitDev (s.dev.stageLed 13 v) s

/-- W_LEDCTL15 (R38). -/
def execWLedctl15 (v : Byte) (s : State) : Step := commitDev (s.dev.stageLed 14 v) s

/-- W_LEDCTL16 (R38). -/
def execWLedctl16 (v : Byte) (s : State) : Step := commitDev (s.dev.stageLed 15 v) s

/-- W_LEDCTL17 (R38). -/
def execWLedctl17 (v : Byte) (s : State) : Step := commitDev (s.dev.stageLed 16 v) s

/-- W_LEDCTL18 (R38). -/
def execWLedctl18 (v : Byte) (s : State) : Step := commitDev (s.dev.stageLed 17 v) s

/-- W_LEDCTL19 (R38). -/
def execWLedctl19 (v : Byte) (s : State) : Step := commitDev (s.dev.stageLed 18 v) s

/-- W_LEDCTL20 (R38). -/
def execWLedctl20 (v : Byte) (s : State) : Step := commitDev (s.dev.stageLed 19 v) s

/-- W_LEDCTL21 (R38). -/
def execWLedctl21 (v : Byte) (s : State) : Step := commitDev (s.dev.stageLed 20 v) s

/-- W_LEDCTL22 (R38). -/
def execWLedctl22 (v : Byte) (s : State) : Step := commitDev (s.dev.stageLed 21 v) s

/-- W_LEDCTL23 (R38). -/
def execWLedctl23 (v : Byte) (s : State) : Step := commitDev (s.dev.stageLed 22 v) s

/-- W_LEDCTL24 (R38). -/
def execWLedctl24 (v : Byte) (s : State) : Step := commitDev (s.dev.stageLed 23 v) s

/-- W_LEDCTL25 (R38). -/
def execWLedctl25 (v : Byte) (s : State) : Step := commitDev (s.dev.stageLed 24 v) s

/-- W_LEDCTL26 (R38). -/
def execWLedctl26 (v : Byte) (s : State) : Step := commitDev (s.dev.stageLed 25 v) s

/-- W_LEDCTL27 (R38). -/
def execWLedctl27 (v : Byte) (s : State) : Step := commitDev (s.dev.stageLed 26 v) s

/-- W_LEDCTL28 (R38). -/
def execWLedctl28 (v : Byte) (s : State) : Step := commitDev (s.dev.stageLed 27 v) s

end Sys2Proof.Machine
end

