-- ==== Sys2Proof/Machine/Lifecycle.lean ====
section
/-! DEFINITION. Lifecycle commands and the registers they drive (41_lifecycle.md): POWER_ON, POWER_OFF, Shutdown, Reset.
The meaning of a command is its ACCEPT (40_engine.md R83); the engine then runs its microsequence event by event. -/

namespace Sys2Proof.Machine

/-- POWER_ON (R96): accepted with `ch <- a`; `val` is unspecified, a free value (R83; log entry 11). The reserved `b` is
ignored (R63). -/
def execPowerOn (a _b : Byte) (s : State) : Step :=
  acceptWhenIdle ((accepted .powerOn a (Config.freeBits 8 s.draws) s).drew 1) s

/-- POWER_OFF (R97): accepted with `ch <- a`; `val` is unspecified, a free value (R83; log entry 11). The reserved `b` is
ignored (R63). -/
def execPowerOff (a _b : Byte) (s : State) : Step :=
  acceptWhenIdle ((accepted .powerOff a (Config.freeBits 8 s.draws) s).drew 1) s

/-- W_SHUTDOWN (R36). -/
def execWShutdown (v : Byte) (s : State) : Step := commitDev (s.dev.writeShutdown v) s

/-- W_RESET (R42): the value is ignored. -/
def execWReset (_v : Byte) (s : State) : Step := commitDev (devDefaults s.params) s

end Sys2Proof.Machine
end

