-- ==== Sys2Proof/Machine/PwmLatch.lean ====
section
/-! DEFINITION. The per-channel PWM write and latch engine (42_pwm_latch.md): SET_PWM, the PWM registers and Update. -/

namespace Sys2Proof.Machine

/-- SET_PWM (R105): a channel outside 1..28 ends the command at once with PARAM_ERR (R131); any other is accepted
(R83). -/
def execSetPwm (channel value : Byte) (s : State) : Step :=
  acceptWhenIdle
    (if channelOk channel then accepted .setPwm channel value s else endCommand .paramErr s) s

/-- W_UPDATE (R39, R106). -/
def execWUpdate (v : Byte) (s : State) : Step := writeUpdate v s

/-- W_PWM1 (R37). -/
def execWPwm1 (v : Byte) (s : State) : Step := commitDev (s.dev.stagePwm 0 v) s

/-- W_PWM2 (R37). -/
def execWPwm2 (v : Byte) (s : State) : Step := commitDev (s.dev.stagePwm 1 v) s

/-- W_PWM3 (R37). -/
def execWPwm3 (v : Byte) (s : State) : Step := commitDev (s.dev.stagePwm 2 v) s

/-- W_PWM4 (R37). -/
def execWPwm4 (v : Byte) (s : State) : Step := commitDev (s.dev.stagePwm 3 v) s

/-- W_PWM5 (R37). -/
def execWPwm5 (v : Byte) (s : State) : Step := commitDev (s.dev.stagePwm 4 v) s

/-- W_PWM6 (R37). -/
def execWPwm6 (v : Byte) (s : State) : Step := commitDev (s.dev.stagePwm 5 v) s

/-- W_PWM7 (R37). -/
def execWPwm7 (v : Byte) (s : State) : Step := commitDev (s.dev.stagePwm 6 v) s

/-- W_PWM8 (R37). -/
def execWPwm8 (v : Byte) (s : State) : Step := commitDev (s.dev.stagePwm 7 v) s

/-- W_PWM9 (R37). -/
def execWPwm9 (v : Byte) (s : State) : Step := commitDev (s.dev.stagePwm 8 v) s

/-- W_PWM10 (R37). -/
def execWPwm10 (v : Byte) (s : State) : Step := commitDev (s.dev.stagePwm 9 v) s

/-- W_PWM11 (R37). -/
def execWPwm11 (v : Byte) (s : State) : Step := commitDev (s.dev.stagePwm 10 v) s

/-- W_PWM12 (R37). -/
def execWPwm12 (v : Byte) (s : State) : Step := commitDev (s.dev.stagePwm 11 v) s

/-- W_PWM13 (R37). -/
def execWPwm13 (v : Byte) (s : State) : Step := commitDev (s.dev.stagePwm 12 v) s

/-- W_PWM14 (R37). -/
def execWPwm14 (v : Byte) (s : State) : Step := commitDev (s.dev.stagePwm 13 v) s

/-- W_PWM15 (R37). -/
def execWPwm15 (v : Byte) (s : State) : Step := commitDev (s.dev.stagePwm 14 v) s

/-- W_PWM16 (R37). -/
def execWPwm16 (v : Byte) (s : State) : Step := commitDev (s.dev.stagePwm 15 v) s

/-- W_PWM17 (R37). -/
def execWPwm17 (v : Byte) (s : State) : Step := commitDev (s.dev.stagePwm 16 v) s

/-- W_PWM18 (R37). -/
def execWPwm18 (v : Byte) (s : State) : Step := commitDev (s.dev.stagePwm 17 v) s

/-- W_PWM19 (R37). -/
def execWPwm19 (v : Byte) (s : State) : Step := commitDev (s.dev.stagePwm 18 v) s

/-- W_PWM20 (R37). -/
def execWPwm20 (v : Byte) (s : State) : Step := commitDev (s.dev.stagePwm 19 v) s

/-- W_PWM21 (R37). -/
def execWPwm21 (v : Byte) (s : State) : Step := commitDev (s.dev.stagePwm 20 v) s

/-- W_PWM22 (R37). -/
def execWPwm22 (v : Byte) (s : State) : Step := commitDev (s.dev.stagePwm 21 v) s

/-- W_PWM23 (R37). -/
def execWPwm23 (v : Byte) (s : State) : Step := commitDev (s.dev.stagePwm 22 v) s

/-- W_PWM24 (R37). -/
def execWPwm24 (v : Byte) (s : State) : Step := commitDev (s.dev.stagePwm 23 v) s

/-- W_PWM25 (R37). -/
def execWPwm25 (v : Byte) (s : State) : Step := commitDev (s.dev.stagePwm 24 v) s

/-- W_PWM26 (R37). -/
def execWPwm26 (v : Byte) (s : State) : Step := commitDev (s.dev.stagePwm 25 v) s

/-- W_PWM27 (R37). -/
def execWPwm27 (v : Byte) (s : State) : Step := commitDev (s.dev.stagePwm 26 v) s

/-- W_PWM28 (R37). -/
def execWPwm28 (v : Byte) (s : State) : Step := commitDev (s.dev.stagePwm 27 v) s

end Sys2Proof.Machine
end

