-- ==== Sys2Proof/Machine/Dispatch.lean ====
section
/-! DEFINITION. One arm per instruction: the meaning it runs. -/

namespace Sys2Proof.Machine

def exec (i : Instr) (s : State) : Host.Outcome State Fault Refusal :=
  match i with
  | .powerOn a b => Sys2Proof.Machine.execPowerOn a b s
  | .powerOff a b => Sys2Proof.Machine.execPowerOff a b s
  | .setFrequency a rsv sel => Sys2Proof.Machine.execSetFrequency a rsv sel s
  | .setPwm channel value => Sys2Proof.Machine.execSetPwm channel value s
  | .wShutdown v => Sys2Proof.Machine.execWShutdown v s
  | .wPwm1 v => Sys2Proof.Machine.execWPwm1 v s
  | .wPwm2 v => Sys2Proof.Machine.execWPwm2 v s
  | .wPwm3 v => Sys2Proof.Machine.execWPwm3 v s
  | .wPwm4 v => Sys2Proof.Machine.execWPwm4 v s
  | .wPwm5 v => Sys2Proof.Machine.execWPwm5 v s
  | .wPwm6 v => Sys2Proof.Machine.execWPwm6 v s
  | .wPwm7 v => Sys2Proof.Machine.execWPwm7 v s
  | .wPwm8 v => Sys2Proof.Machine.execWPwm8 v s
  | .wPwm9 v => Sys2Proof.Machine.execWPwm9 v s
  | .wPwm10 v => Sys2Proof.Machine.execWPwm10 v s
  | .wPwm11 v => Sys2Proof.Machine.execWPwm11 v s
  | .wPwm12 v => Sys2Proof.Machine.execWPwm12 v s
  | .wPwm13 v => Sys2Proof.Machine.execWPwm13 v s
  | .wPwm14 v => Sys2Proof.Machine.execWPwm14 v s
  | .wPwm15 v => Sys2Proof.Machine.execWPwm15 v s
  | .wPwm16 v => Sys2Proof.Machine.execWPwm16 v s
  | .wPwm17 v => Sys2Proof.Machine.execWPwm17 v s
  | .wPwm18 v => Sys2Proof.Machine.execWPwm18 v s
  | .wPwm19 v => Sys2Proof.Machine.execWPwm19 v s
  | .wPwm20 v => Sys2Proof.Machine.execWPwm20 v s
  | .wPwm21 v => Sys2Proof.Machine.execWPwm21 v s
  | .wPwm22 v => Sys2Proof.Machine.execWPwm22 v s
  | .wPwm23 v => Sys2Proof.Machine.execWPwm23 v s
  | .wPwm24 v => Sys2Proof.Machine.execWPwm24 v s
  | .wPwm25 v => Sys2Proof.Machine.execWPwm25 v s
  | .wPwm26 v => Sys2Proof.Machine.execWPwm26 v s
  | .wPwm27 v => Sys2Proof.Machine.execWPwm27 v s
  | .wPwm28 v => Sys2Proof.Machine.execWPwm28 v s
  | .wUpdate v => Sys2Proof.Machine.execWUpdate v s
  | .wLedctl1 v => Sys2Proof.Machine.execWLedctl1 v s
  | .wLedctl2 v => Sys2Proof.Machine.execWLedctl2 v s
  | .wLedctl3 v => Sys2Proof.Machine.execWLedctl3 v s
  | .wLedctl4 v => Sys2Proof.Machine.execWLedctl4 v s
  | .wLedctl5 v => Sys2Proof.Machine.execWLedctl5 v s
  | .wLedctl6 v => Sys2Proof.Machine.execWLedctl6 v s
  | .wLedctl7 v => Sys2Proof.Machine.execWLedctl7 v s
  | .wLedctl8 v => Sys2Proof.Machine.execWLedctl8 v s
  | .wLedctl9 v => Sys2Proof.Machine.execWLedctl9 v s
  | .wLedctl10 v => Sys2Proof.Machine.execWLedctl10 v s
  | .wLedctl11 v => Sys2Proof.Machine.execWLedctl11 v s
  | .wLedctl12 v => Sys2Proof.Machine.execWLedctl12 v s
  | .wLedctl13 v => Sys2Proof.Machine.execWLedctl13 v s
  | .wLedctl14 v => Sys2Proof.Machine.execWLedctl14 v s
  | .wLedctl15 v => Sys2Proof.Machine.execWLedctl15 v s
  | .wLedctl16 v => Sys2Proof.Machine.execWLedctl16 v s
  | .wLedctl17 v => Sys2Proof.Machine.execWLedctl17 v s
  | .wLedctl18 v => Sys2Proof.Machine.execWLedctl18 v s
  | .wLedctl19 v => Sys2Proof.Machine.execWLedctl19 v s
  | .wLedctl20 v => Sys2Proof.Machine.execWLedctl20 v s
  | .wLedctl21 v => Sys2Proof.Machine.execWLedctl21 v s
  | .wLedctl22 v => Sys2Proof.Machine.execWLedctl22 v s
  | .wLedctl23 v => Sys2Proof.Machine.execWLedctl23 v s
  | .wLedctl24 v => Sys2Proof.Machine.execWLedctl24 v s
  | .wLedctl25 v => Sys2Proof.Machine.execWLedctl25 v s
  | .wLedctl26 v => Sys2Proof.Machine.execWLedctl26 v s
  | .wLedctl27 v => Sys2Proof.Machine.execWLedctl27 v s
  | .wLedctl28 v => Sys2Proof.Machine.execWLedctl28 v s
  | .wGlobalctl v => Sys2Proof.Machine.execWGlobalctl v s
  | .wOutfreq v => Sys2Proof.Machine.execWOutfreq v s
  | .wReset v => Sys2Proof.Machine.execWReset v s

end Sys2Proof.Machine
end

