-- ==== Sys2Proof/Machine/Engine.lean ====
section
/-! DEFINITION. The sequencing engine (40_engine.md R83 to R88) and the order of events: which agent moves next, and which
word, if any, it brings to be decoded. -/

namespace Sys2Proof.Machine

/-- What the next event is: a word arrives at a port and its instruction runs in the state given; or an event with no
instruction, with its outcome. -/
inductive Fetched where
  | word (r : Raw) (s : State)
  | event (o : Step)

/-- ISSUE: present the frame of the step with the stored address, append it to the trace, set `pend` (R84). -/
def issue (s : State) : Step :=
  match uop s.params s.seq.op s.seq.step s.seq.ch s.seq.val with
  | none => .fault .microprogramOverrun
  | some f =>
    .next { s with
      seq := { s.seq with pend := true }
      bus := .carrying s.seq.address f
      trace := s.trace ++ [⟨s.seq.address, f⟩] }

/-- RESPONSE-OK and RESPONSE-FAIL: SEQ takes BUS's answer (R86, R87). -/
def respond (a : BusAnswer) (s : State) : Step :=
  match a with
  | .fail e => .next (endCommand (.busErr e) { s with bus := .quiet })
  | .ok =>
    if s.seq.step = lastStep s.seq.op then .next (endCommand .ok { s with bus := .quiet })
    else .next { s with bus := .quiet, seq := { s.seq with pend := false, step := s.seq.step + 1 } }

/-- The state once BUS has answered the frame it carried: `rest` is what the outside world still does. -/
def State.gotAnswer (s : State) (a : BusAnswer) (rest : List EnvEvent) : State :=
  { s with bus := .answered a, env := rest, answers := s.answers ++ [a] }

/-- A frame reaches the device at address `d`: DEV takes it if that is DEV's own address; if not, it lands in another
device and DEV does not change (R176; log entry 20). -/
def deliver (d : BusAddr) (f : FrameWord) (s : State) : Fetched :=
  if d = s.params.strap then .word (.bus16 f) s else .event (.next s)

/-- What SEQ does of its own: take an answer that BUS has given, ISSUE the next frame, ACCEPT the caller's next command while
idle (R83, R84, R86, R87). While its frame is on the way it waits (R85); idle, with no command presented, it does nothing
(R90). -/
def seqMove (s : State) : Fetched :=
  if s.seq.busy then
    if s.seq.pend then
      match s.bus with
      | .quiet => .event (.next s)
      | .carrying _ _ => .event (.next s)
      | .answered a => .event (respond a s)
    else .event (issue s)
  else
    match s.commands with
    | w :: rest => .word (.cmd18 w) { s with commands := rest }
    | [] => .event (.next s)

/-- BUS answers the frame it carries for SEQ: `ok` once the frame has been delivered (R32), or `fail`, and then DEV is
unchanged (D10; log entry 12). -/
def answerFrame (a : BusAnswer) (d : BusAddr) (f : FrameWord) (rest : List EnvEvent) (s : State) : Fetched :=
  match a with
  | .ok => deliver d f (s.gotAnswer .ok rest)
  | .fail e => .event (.next (s.gotAnswer (.fail e) rest))

/-- The next event (log entry 2). Foreign frames, DEV power-on and CONSTRUCT happen as soon as they head `env`; an answer
there waits for the frame it answers, and SEQ moves until then; where no answer comes SEQ waits (R52). -/
def fetch (s : State) : Fetched :=
  match s.env with
  | .foreign d f :: rest => deliver d f { s with env := rest }
  | .devPowerOn :: rest => .event (commitDev (devDefaults s.params) { s with env := rest })
  | .construct a :: rest => .event (construct a { s with env := rest })
  | .later :: rest => seqMove { s with env := rest }
  | .answer a :: rest =>
    match s.bus with
    | .quiet => seqMove s
    | .carrying d f => if s.seq.busy && s.seq.pend then answerFrame a d f rest s else seqMove s
    | .answered _ => seqMove s
  | [] => seqMove s

/-- What the outside world still does once SEQ has moved: a `later` that stood first is gone (log entry 2). -/
def afterMove (env : List EnvEvent) : List EnvEvent :=
  match env with
  | .later :: rest => rest
  | _ => env

/-- The state in which SEQ moves: a `later` that stood first is gone. -/
def State.moving (s : State) : State := { s with env := afterMove s.env }

/-- The refusal of a word that stands for no instruction. -/
def undecodable (e : DecodeError) : Refusal :=
  match e with
  | .unmapped reg => .unmappedRegister reg

/-- What the outside world does before SEQ moves. -/
def EnvEvent.immediate (e : EnvEvent) : Bool :=
  match e with
  | .answer _ => false
  | .foreign _ _ => true
  | .devPowerOn => true
  | .construct _ => true
  | .later => false

/-- The state in which the word given is the very next one to arrive: a command presented to an idle SEQ with no other
event before it, or a frame delivered to DEV. -/
def placeWord (r : Raw) (s : State) : State :=
  match r with
  | .cmd18 w =>
    { s with
      seq := { s.seq with busy := false, pend := false }
      bus := .quiet
      commands := w :: s.commands
      env := s.env.dropWhile EnvEvent.immediate }
  | .bus16 f => { s with env := .foreign s.params.strap f :: s.env }

end Sys2Proof.Machine
end

