-- ==== Sys2Proof/Machine/Step.lean ====
section
/-! DEFINITION. One step of the machine: one event (00_scope.md R5). -/

namespace Sys2Proof.Machine

/-- The next event: the word that arrives is decoded and its instruction runs, or the event of an agent happens. -/
def step (s : State) : Host.Outcome State Fault Refusal :=
  match fetch s with
  | .event o => o
  | .word r t =>
    match decode r with
    | .ok i => exec i t
    | .error e => .refused (undecodable e)

/-- The state in which the very next step runs the instruction of a word of the opcode table (log entry 3). -/
def State.withFetchWord (s : State) (nbits w : Nat) : State :=
  match Raw.ofTable nbits w with
  | some r => placeWord r s
  | none => s

end Sys2Proof.Machine
end

