-- ==== Sys2Proof/Safety.lean ====
section
/-! DEFINITION. What claims are stated in: runs, the premise of exclusive bus access, the invariant of the engine, the
frames a command consists of and what they do to DEV. -/

namespace Sys2Proof.Machine

/-- `n` events, stopping at the first fault or refusal. -/
def runSteps : Nat → State → Step
  | 0, s => .next s
  | n + 1, s =>
    match step s with
    | .next t => runSteps n t
    | .fault r => .fault r
    | .refused r => .refused r

/-- The next event is the delivery of another bus actor's frame to DEV. -/
def ForeignFrameNext (s : State) : Prop := ∃ f rest, s.env = .foreign s.params.strap f :: rest

/-- The next event is DEV's power-on. -/
def PowerOnNext (s : State) : Prop := ∃ rest, s.env = .devPowerOn :: rest

/-- In none of the next `n` events does `P` hold before the event. -/
def NeverIn (P : State → Prop) : Nat → State → Prop
  | 0, _ => True
  | n + 1, s => ¬ P s ∧ ∀ t, step s = .next t → NeverIn P n t

/-- `ExclusiveBus` (70_reset_and_hazards.md R170) for the next `n` events, those from the ACCEPT of a command to its result:
no frame other than SEQ's reaches DEV. Frames to other devices, and whatever happens later, are not its concern. -/
def ExclusiveBus (n : Nat) (s : State) : Prop := NeverIn ForeignFrameNext n s

/-- DEV is not powered on in the next `n` events: like a foreign frame, that changes DEV (R160 b). -/
def StaysPowered (n : Nat) (s : State) : Prop := NeverIn PowerOnNext n s

/-- Nothing but SEQ's side, or BUS's answer to it, is next. -/
def Calm (env : List EnvEvent) : Prop := ∀ e rest, env = e :: rest → e.immediate = false

/-- All the outside world ever does is to answer. -/
def OnlyAnswers (env : List EnvEvent) : Prop := ∀ e ∈ env, ∃ a, e = .answer a

/-- SEQ is idle (R88): no command in progress, no frame outstanding. -/
def Idle (s : State) : Prop := s.seq.busy = false ∧ s.seq.pend = false ∧ s.bus = .quiet

/-- Bus answers as events. -/
def answerEvents (as : List BusAnswer) : List EnvEvent := as.map .answer

/-- What holds of the operands while a command is in progress (R12, R81, R83): the step has a row in the microprogram,
a SET_PWM channel has passed the check, a SET_FREQUENCY value is one of the two codes. -/
def OperandsOk (q : Seq) : Prop :=
  q.step ≤ lastStep q.op ∧ (q.op = .setPwm → channelOk q.ch = true) ∧
  (q.op = .setFrequency → q.val = vFreqLow ∨ q.val = vFreqHigh)

/-- The invariant of the engine: a frame is outstanding only in a command, BUS is engaged exactly while one is, the frame
it carries is the frame of the step with SEQ's address, and the operands of a command in progress are in range. -/
def EngineOk (s : State) : Prop :=
  (s.seq.pend = true → s.seq.busy = true) ∧
  (s.seq.busy = true → OperandsOk s.seq) ∧
  (s.seq.pend = false ↔ s.bus = .quiet) ∧
  (∀ d f, s.bus = .carrying d f →
    d = s.seq.address ∧ uop s.params s.seq.op s.seq.step s.seq.ch s.seq.val = some f)

/-- DEV after a delivered frame, from the meaning of the frame's instruction; as it was where the frame has none. -/
def devAfterFrame (p : Params) (d : Dev) (f : FrameWord) : Dev :=
  match decode (.bus16 f) with
  | .error _ => d
  | .ok i =>
    match exec i { State.reset with params := p, dev := d } with
    | .next t => t.dev
    | .fault _ => d
    | .refused _ => d

/-- DEV after frames delivered one after another, each before the next is issued (R47). -/
def devAfter (p : Params) (d : Dev) (fs : List FrameWord) : Dev := fs.foldl (devAfterFrame p) d

/-- The frames SEQ can ever issue (30_encoding.md R68). -/
def Issuable (p : Params) (f : FrameWord) : Prop :=
  f = frameWord 0x4F p.resetValue ∨ f = frameWord 0x00 0x01 ∨ f = frameWord 0x00 0x00 ∨
  (∃ k : Fin 28, f = frameWord (0x2A + BitVec.ofNat 8 k) 0x01) ∨ f = frameWord 0x25 p.updateValue ∨
  f = frameWord 0x4A 0x00 ∨ f = frameWord 0x4B 0x00 ∨ f = frameWord 0x4B 0x01 ∨
  (∃ (k : Fin 28) (v : Byte), f = frameWord (0x05 + BitVec.ofNat 8 k) v)

/-- The frames of `power_on()`, in order (R96). -/
def powerOnFrames (p : Params) : List FrameWord :=
  [frameWord 0x4F p.resetValue, frameWord 0x00 0x01] ++
  (List.range 28).map (fun k => frameWord (0x2A + BitVec.ofNat 8 k) 0x01) ++
  [frameWord 0x25 p.updateValue, frameWord 0x4A 0x00]

/-- The frames of `power_off()` (R97). -/
def powerOffFrames : List FrameWord := [frameWord 0x00 0x00]

/-- The frames of `set_frequency(sel)` (R115). -/
def setFrequencyFrames (sel : BitVec 1) : List FrameWord := [frameWord 0x4B (if sel = 1#1 then 0x01 else 0x00)]

/-- The frames of `set_pwm(channel, value)` (R105). -/
def setPwmFrames (p : Params) (channel value : Byte) : List FrameWord :=
  [frameWord (BitVec.ofNat 8 (0x05 + (channel.toNat - 1))) value, frameWord 0x25 p.updateValue]

end Sys2Proof.Machine
end

