-- ==== Sys2Proof/Certificates/Slice0/Obligations.lean ====
section
/-! DEFINITION. The statements for the provers. Each docstring cites the rule of spec/ it formalises. `channel` counts from
1, an index `k : Fin 28` from 0. Helpers of several statements are under `Sys2Proof.Claims`. -/

open Sys2Proof Sys2Proof.Machine

namespace Sys2Proof.Claims

/-- The constructors of the PWM frames, channel 1 first. -/
def pwmFrames : List (Byte → Instr) :=
  [.wPwm1, .wPwm2, .wPwm3, .wPwm4, .wPwm5, .wPwm6, .wPwm7, .wPwm8, .wPwm9, .wPwm10, .wPwm11, .wPwm12, .wPwm13,
   .wPwm14, .wPwm15, .wPwm16, .wPwm17, .wPwm18, .wPwm19, .wPwm20, .wPwm21, .wPwm22, .wPwm23, .wPwm24, .wPwm25,
   .wPwm26, .wPwm27, .wPwm28]

/-- The constructors of the LedControl frames, channel 1 first. -/
def ledctlFrames : List (Byte → Instr) :=
  [.wLedctl1, .wLedctl2, .wLedctl3, .wLedctl4, .wLedctl5, .wLedctl6, .wLedctl7, .wLedctl8, .wLedctl9, .wLedctl10,
   .wLedctl11, .wLedctl12, .wLedctl13, .wLedctl14, .wLedctl15, .wLedctl16, .wLedctl17, .wLedctl18, .wLedctl19,
   .wLedctl20, .wLedctl21, .wLedctl22, .wLedctl23, .wLedctl24, .wLedctl25, .wLedctl26, .wLedctl27, .wLedctl28]

/-- The register addresses of the map (R15). -/
def Mapped (reg : Byte) : Prop :=
  reg.toNat = 0x00 ∨ (0x05 ≤ reg.toNat ∧ reg.toNat ≤ 0x20) ∨ reg.toNat = 0x25 ∨
  (0x2A ≤ reg.toNat ∧ reg.toNat ≤ 0x45) ∨ reg.toNat = 0x4A ∨ reg.toNat = 0x4B ∨ reg.toNat = 0x4F

/-- An instruction is a frame, not a command. -/
def IsFrame (i : Instr) : Prop := ∃ w, encode i = .bus16 w

/-- The outputs of DEV are off: every channel whose active enable is a byte the document defines shows off, and no channel
at all shows on. Of a channel whose enable is another byte R45 defines no visible setting (log entry 29). -/
def OutputsOff (d : Dev) : Prop :=
  ∀ k : Fin 28, (d.ledActive[k] = 0x00 ∨ d.ledActive[k] = 0x01 → d.visible k = some .off) ∧
    ∀ v : Byte, d.visible k ≠ some (.on v)

/-- The frame instruction `i` completes, in every state and with every value, by storing `v` in the staged PWM byte of
channel `k + 1` (R37): that byte alone changes, seen by channel and by register address; the active copies, and so every
visible setting, are as before; nothing outside DEV changes. -/
def StagesPwm (i : Byte → Instr) (k : Fin 28) : Prop :=
  ∀ (s : State) (v : Byte), ∃ t, exec (i v) s = .next t ∧ t = { s with dev := t.dev } ∧
    (∀ c : Fin 28, t.dev.pwmStaged[c] = if c = k then v else s.dev.pwmStaged[c]) ∧
    t.dev = { s.dev with pwmStaged := t.dev.pwmStaged } ∧
    (∀ r : Byte, t.dev.storedAt r = if r = BitVec.ofNat 8 (0x05 + k) then some v else s.dev.storedAt r) ∧
    (∀ c : Fin 28, t.dev.visible c = s.dev.visible c) ∧ t.dev.globalVisible = s.dev.globalVisible

/-- The same for the staged LedControl byte of channel `k + 1` (R38). -/
def StagesLed (i : Byte → Instr) (k : Fin 28) : Prop :=
  ∀ (s : State) (v : Byte), ∃ t, exec (i v) s = .next t ∧ t = { s with dev := t.dev } ∧
    (∀ c : Fin 28, t.dev.ledStaged[c] = if c = k then v else s.dev.ledStaged[c]) ∧
    t.dev = { s.dev with ledStaged := t.dev.ledStaged } ∧
    (∀ r : Byte, t.dev.storedAt r = if r = BitVec.ofNat 8 (0x2A + k) then some v else s.dev.storedAt r) ∧
    (∀ c : Fin 28, t.dev.visible c = s.dev.visible c) ∧ t.dev.globalVisible = s.dev.globalVisible

/-- The command `i`, presented to an idle SEQ, consists of the frames `F`: with `ok` to every frame it issues all of them and
ends with OK; with a failure at frame `j` (from 0) it issues the first `j + 1` and ends with that failure. The answers
come as soon as they are awaited, three events a frame (ISSUE, the answer of BUS, the response); what the outside world
does after the last of them is open. -/
def RunsFrames (i : Instr) (F : Params → List FrameWord) : Prop :=
  ∀ s : State, Idle s →
    (∀ rest, Calm rest → s.env = answerEvents (List.replicate (F s.params).length .ok) ++ rest →
      ∃ t u, exec i s = .next t ∧ runSteps (3 * (F s.params).length) t = .next u ∧
        u.trace = s.trace ++ (F s.params).map (fun f => ⟨s.seq.address, f⟩) ∧
        u.results = s.results ++ [.ok] ∧ Idle u ∧ u.env = afterMove rest ∧ u.commands = s.commands ∧
        u.seq.address = s.seq.address) ∧
    (∀ j e rest, j < (F s.params).length → Calm rest →
      s.env = answerEvents (List.replicate j .ok ++ [.fail e]) ++ rest →
      ∃ t u, exec i s = .next t ∧ runSteps (3 * (j + 1)) t = .next u ∧
        u.trace = s.trace ++ ((F s.params).take (j + 1)).map (fun f => ⟨s.seq.address, f⟩) ∧
        u.results = s.results ++ [.busErr e] ∧ Idle u ∧ u.env = afterMove rest ∧ u.commands = s.commands ∧
        u.seq.address = s.seq.address)

/-- `u`, reached in `n` events from an idle `s` that took the command `i`, is still within that command. -/
def Within (i : Instr) (s : State) (n : Nat) (u : State) : Prop :=
  Idle s ∧ (∃ t, exec i s = .next t ∧ runSteps n t = .next u) ∧ u.results = s.results

/-- Whatever the outside world does: within the command `i`, at step `k`, SEQ has issued the first `k` frames of `F`, and
frame `k` where it is outstanding, each to the stored address, and nothing else; the first `k` were answered `ok`. The
event that ends the command issues nothing; it ends with OK only after the whole of `F`, and with BUS's error to the
last frame issued otherwise (R89). -/
def TraceOnAnyBus (i : Instr) (F : Params → List FrameWord) : Prop :=
  ∀ (s u : State) (n : Nat), Within i s n u →
    u.seq.busy = true ∧ u.seq.address = s.seq.address ∧
    u.trace = s.trace ++
      ((F s.params).take (u.seq.step.toNat + if u.seq.pend then 1 else 0)).map (fun f => ⟨s.seq.address, f⟩) ∧
    (∀ a, u.bus = .answered a → u.answers = s.answers ++ List.replicate u.seq.step.toNat .ok ++ [a]) ∧
    ((∀ a, u.bus ≠ .answered a) → u.answers = s.answers ++ List.replicate u.seq.step.toNat .ok) ∧
    ∀ v r, step u = .next v → v.results = s.results ++ [r] →
      v.trace = u.trace ∧
      (r = .ok ∧ v.trace = s.trace ++ (F s.params).map (fun f => ⟨s.seq.address, f⟩) ∨
        ∃ e, r = .busErr e ∧ u.bus = .answered (.fail e))

/-- With exclusive access to the bus from the ACCEPT of the command `i` on, and DEV powered throughout, DEV is at every
event as the frames of `F` that were answered `ok` so far left it, and so it is when the command ends: all of `F` after
OK, those before the failed one after BUS's error (R170, R134). -/
def DevOnExclusiveBus (i : Instr) (F : Params → List FrameWord) : Prop :=
  ∀ (s t u : State) (n : Nat), Within i s n u → exec i s = .next t → s.seq.address = s.params.strap →
    ExclusiveBus n t → StaysPowered n t →
    u.dev = devAfter s.params s.dev
      ((F s.params).take (u.seq.step.toNat + if u.bus = .answered .ok then 1 else 0)) ∧
    ∀ v r, step u = .next v → v.results = s.results ++ [r] →
      (r = .ok → v.dev = devAfter s.params s.dev (F s.params)) ∧
      (∀ e, r = .busErr e → v.dev = devAfter s.params s.dev ((F s.params).take u.seq.step.toNat))

/-- `P` holds of every command and its frames: POWER_ON, POWER_OFF, SET_FREQUENCY, and SET_PWM of a channel in 1..28. -/
def EveryCommand (P : Instr → (Params → List FrameWord) → Prop) : Prop :=
  (∀ a b : Byte, P (.powerOn a b) powerOnFrames) ∧
  (∀ a b : Byte, P (.powerOff a b) fun _ => powerOffFrames) ∧
  (∀ (a : Byte) (rsv : BitVec 7) (sel : BitVec 1), P (.setFrequency a rsv sel) fun _ => setFrequencyFrames sel) ∧
  (∀ c v : Byte, 1 ≤ c.toNat → c.toNat ≤ 28 → P (.setPwm c v) fun p => setPwmFrames p c v)

/-- DEV after the first `j` frames of POWER_ON from DEV state `d`: the rows of the table of 60_exceptions.md R134. -/
def powerOnDev (p : Params) (d : Dev) (j : Nat) : Dev :=
  if j = 0 then d
  else
    { sd := if j = 1 then 0x00 else 0x01
      gcr := if j = 32 then 0x00 else gcrDefault p
      ofr := ofrDefault p
      pwmStaged := Vector.replicate 28 0x00
      pwmActive := Vector.replicate 28 0x00
      ledStaged := Vector.ofFn fun k => if k.val + 2 < j then 0x01 else 0x00
      ledActive := Vector.replicate 28 (if j ≤ 30 then 0x00 else 0x01) }

end Sys2Proof.Claims

open Sys2Proof.Claims

/-! Reset and construction. -/

/-- State.reset is R26's table for SEQ reset and DEV power-on: SEQ idle, nothing issued, DEV in Shutdown mode with every
channel disabled and every PWM value zero, GlobalControl and OutputFrequency at DEFAULT_GCR and DEFAULT_OFR. That both
events have just happened, and that both copies are cleared (D13), are choices: log entries 10 and 15. -/
def Obligations.ResetLeavesSeqIdleAndDevDark : Prop :=
  Idle State.reset ∧ State.reset.trace = [] ∧ State.reset.results = [] ∧
  State.reset.dev.sd = 0x00 ∧ State.reset.dev.mode = some .shutdown ∧
  (∀ k : Fin 28, State.reset.dev.pwmStaged[k] = 0x00 ∧ State.reset.dev.pwmActive[k] = 0x00 ∧
    State.reset.dev.ledStaged[k] = 0x00 ∧ State.reset.dev.ledActive[k] = 0x00 ∧
    State.reset.dev.visible k = some .off) ∧
  State.reset.dev.gcr = gcrDefault State.reset.params ∧ State.reset.dev.ofr = ofrDefault State.reset.params

/-- DEV power-on, from any state and at any time, gives DEV its defaults and changes nothing of SEQ (R26, R160 b; that both
copies are cleared is D13, log entry 15). -/
def Obligations.DevPowerOnGivesDefaults : Prop :=
  ∀ (s : State) (rest : List EnvEvent), s.env = .devPowerOn :: rest →
    ∃ t, step s = .next t ∧ t = { s with env := rest, dev := t.dev } ∧ t.dev.sd = 0x00 ∧
      (∀ k : Fin 28, t.dev.pwmStaged[k] = 0x00 ∧ t.dev.pwmActive[k] = 0x00 ∧ t.dev.ledStaged[k] = 0x00 ∧
        t.dev.ledActive[k] = 0x00 ∧ t.dev.visible k = some .off) ∧
      t.dev.gcr = gcrDefault s.params ∧ t.dev.ofr = ofrDefault s.params

/-- CONSTRUCT of an idle SEQ loads the address, clears `busy` and `pend` and sends nothing: no frame, no answer, no
result, DEV as it was (R95). That SEQ is idle is D17; that a SEQ which has run before may be constructed again, takes the
new address and keeps the record of the instance before it is the model's choice: log entry 19. -/
def Obligations.ConstructLoadsAddressSilently : Prop :=
  ∀ (s : State) (a : BusAddr) (rest : List EnvEvent), s.env = .construct a :: rest → s.seq.busy = false →
    ∃ t, step s = .next t ∧ t.seq.address = a ∧ t.seq.busy = false ∧ t.seq.pend = false ∧
      t = { s with seq := t.seq, env := rest, draws := t.draws }

/-- CONSTRUCT while a command is in progress has no meaning (D17; log entry 19). -/
def Obligations.ConstructWhileBusyRefused : Prop :=
  ∀ (s : State) (a : BusAddr) (rest : List EnvEvent), s.env = .construct a :: rest → s.seq.busy = true →
    step s = .refused .resetWhileBusy

/-! Encoding. -/

/-- Words written out from the encodings of R60, R62 and R67 decode to what they stand for. -/
def Obligations.WrittenWordsDecode : Prop :=
  decode (.cmd18 0b00_00000000_00000000#18) = .ok (.powerOn 0x00 0x00) ∧
  decode (.cmd18 0b00_10101011_11001101#18) = .ok (.powerOn 0xAB 0xCD) ∧
  decode (.cmd18 0b01_00000000_00000000#18) = .ok (.powerOff 0x00 0x00) ∧
  decode (.cmd18 0b10_00000000_00000001#18) = .ok (.setFrequency 0x00 0 1) ∧
  decode (.cmd18 0b10_11111111_11111110#18) = .ok (.setFrequency 0xFF 0x7F 0) ∧
  decode (.cmd18 0b11_00000011_01000000#18) = .ok (.setPwm 3 0x40) ∧
  decode (.bus16 0b00000000_00000001#16) = .ok (.wShutdown 0x01) ∧
  decode (.bus16 0b00001011_10011001#16) = .ok (.wPwm7 0x99) ∧
  decode (.bus16 0b01000101_00000001#16) = .ok (.wLedctl28 0x01) ∧
  decode (.bus16 0b00100001_00000000#16) = .error (.unmapped 0x21)

/-- The register-address map of R67: the register address selects the instruction, the whole byte is its operand, and an
address outside the map selects none. -/
def Obligations.RegisterAddressSelectsInstruction : Prop :=
  ∀ v : Byte,
    decode (.bus16 (frameWord 0x00 v)) = .ok (.wShutdown v) ∧
    (∀ k : Fin 28, decode (.bus16 (frameWord (BitVec.ofNat 8 (0x05 + k)) v)) = .ok (pwmFrames[k] v)) ∧
    decode (.bus16 (frameWord 0x25 v)) = .ok (.wUpdate v) ∧
    (∀ k : Fin 28, decode (.bus16 (frameWord (BitVec.ofNat 8 (0x2A + k)) v)) = .ok (ledctlFrames[k] v)) ∧
    decode (.bus16 (frameWord 0x4A v)) = .ok (.wGlobalctl v) ∧
    decode (.bus16 (frameWord 0x4B v)) = .ok (.wOutfreq v) ∧
    decode (.bus16 (frameWord 0x4F v)) = .ok (.wReset v) ∧
    ∀ reg : Byte, ¬ Mapped reg → decode (.bus16 (frameWord reg v)) = .error (.unmapped reg)

/-- Decoding the word of an instruction gives it back, whatever its operands, reserved bits included. -/
def Obligations.DecodeOfEncode : Prop := ∀ i : Instr, decode (encode i) = .ok i

/-- A word that decodes is the word of the instruction it decodes to: no two words stand for one instruction, and no
bit of a word is lost. The first half is the model's choice, log entry 22: an instruction carries the reserved bits that
SEQ ignores (R63), so that 0x00000 and 0x0ABCD, both POWER_ON, are two instructions of one meaning. -/
def Obligations.EncodeOfDecode : Prop := ∀ (r : Raw) (i : Instr), decode r = .ok i → encode i = r

/-- The words of R70's spellings: `power_on()`, `power_off()`, `set_frequency(low)`, `set_frequency(high)`,
`set_pwm(c, v)`. -/
def Obligations.SpellingsHaveTheirWords : Prop :=
  encode (.powerOn 0 0) = .cmd18 0x00000#18 ∧ encode (.powerOff 0 0) = .cmd18 0x10000#18 ∧
  encode (.setFrequency 0 0 0) = .cmd18 0x20000#18 ∧ encode (.setFrequency 0 0 1) = .cmd18 0x20001#18 ∧
  ∀ c v : Byte, encode (.setPwm c v) = .cmd18 (BitVec.ofNat 18 (0x30000 + c.toNat * 256 + v.toNat))

/-! Steps run instructions. -/

/-- A step runs the instruction its word decodes to: a command presented to an idle SEQ, where nothing of the outside world
comes first, in the state without that word (and without a `later` that gave SEQ the move: log entry 2); a
foreign frame for DEV, in the state without that event; SEQ's own frame that BUS delivers, in the state in which BUS
holds the answer `ok` for SEQ. -/
def Obligations.StepRunsDecodedInstruction : Prop :=
  (∀ (s : State) (w : CmdWord) (rest : List CmdWord) (i : Instr),
    s.seq.busy = false → Calm s.env → s.commands = w :: rest → decode (.cmd18 w) = .ok i →
    step s = exec i { s.moving with commands := rest }) ∧
  (∀ (s : State) (f : FrameWord) (rest : List EnvEvent) (i : Instr),
    s.env = .foreign s.params.strap f :: rest → decode (.bus16 f) = .ok i →
    step s = exec i { s with env := rest }) ∧
  (∀ (s : State) (f : FrameWord) (rest : List EnvEvent) (i : Instr),
    s.seq.busy = true → s.seq.pend = true → s.bus = .carrying s.params.strap f → s.env = .answer .ok :: rest →
    decode (.bus16 f) = .ok i →
    step s = exec i { s with env := rest, bus := .answered .ok, answers := s.answers ++ [.ok] })

/-- A foreign frame to a register address outside the map has no meaning (D15; log entry 18). -/
def Obligations.UnmappedFrameRefused : Prop :=
  ∀ (s : State) (reg v : Byte) (rest : List EnvEvent),
    s.env = .foreign s.params.strap (frameWord reg v) :: rest → ¬ Mapped reg →
    step s = .refused (.unmappedRegister reg)

/-- A frame for another device address leaves DEV as it was, though BUS may answer `ok` (R176; log entry 20). -/
def Obligations.FrameForAnotherDeviceLeavesDev : Prop :=
  (∀ (s : State) (d : BusAddr) (f : FrameWord) (rest : List EnvEvent),
    s.env = .foreign d f :: rest → d ≠ s.params.strap → step s = .next { s with env := rest }) ∧
  (∀ (s : State) (d : BusAddr) (f : FrameWord) (rest : List EnvEvent),
    s.seq.busy = true → s.seq.pend = true → s.bus = .carrying d f → s.env = .answer .ok :: rest →
    d ≠ s.params.strap →
    step s = .next { s with env := rest, bus := .answered .ok, answers := s.answers ++ [.ok] })

/-! Frames on DEV. -/

/-- W_SHUTDOWN stores its byte and changes nothing else; 0x01 enters Normal mode, 0x00 enters Shutdown mode, with all
outputs off (R36). That a byte the document does not define is stored too is D20: log entry 16. Of a channel whose active
enable is such a byte it says only that the channel does not show on (R45, D20: log entry 29). -/
def Obligations.ShutdownFrameSetsMode : Prop :=
  ∀ (s : State) (v : Byte), ∃ t, exec (.wShutdown v) s = .next t ∧
    t = { s with dev := { s.dev with sd := v } } ∧
    (∀ r : Byte, t.dev.storedAt r = if r = 0x00 then some v else s.dev.storedAt r) ∧
    (v = 0x01 → t.dev.mode = some .normal) ∧
    (v = 0x00 → t.dev.mode = some .shutdown ∧ OutputsOff t.dev)

/-- W_PWM1 .. W_PWM28 (R37), in either mode; that a frame is stored in Shutdown mode too is D14 (log entry 13). -/
def Obligations.PwmFramesStage : Prop :=
  StagesPwm .wPwm1 0 ∧
  StagesPwm .wPwm2 1 ∧
  StagesPwm .wPwm3 2 ∧
  StagesPwm .wPwm4 3 ∧
  StagesPwm .wPwm5 4 ∧
  StagesPwm .wPwm6 5 ∧
  StagesPwm .wPwm7 6 ∧
  StagesPwm .wPwm8 7 ∧
  StagesPwm .wPwm9 8 ∧
  StagesPwm .wPwm10 9 ∧
  StagesPwm .wPwm11 10 ∧
  StagesPwm .wPwm12 11 ∧
  StagesPwm .wPwm13 12 ∧
  StagesPwm .wPwm14 13 ∧
  StagesPwm .wPwm15 14 ∧
  StagesPwm .wPwm16 15 ∧
  StagesPwm .wPwm17 16 ∧
  StagesPwm .wPwm18 17 ∧
  StagesPwm .wPwm19 18 ∧
  StagesPwm .wPwm20 19 ∧
  StagesPwm .wPwm21 20 ∧
  StagesPwm .wPwm22 21 ∧
  StagesPwm .wPwm23 22 ∧
  StagesPwm .wPwm24 23 ∧
  StagesPwm .wPwm25 24 ∧
  StagesPwm .wPwm26 25 ∧
  StagesPwm .wPwm27 26 ∧
  StagesPwm .wPwm28 27

/-- W_LEDCTL1 .. W_LEDCTL28 (R38), in either mode; that a frame is stored in Shutdown mode too is D14 (log entry 13). -/
def Obligations.LedctlFramesStage : Prop :=
  StagesLed .wLedctl1 0 ∧
  StagesLed .wLedctl2 1 ∧
  StagesLed .wLedctl3 2 ∧
  StagesLed .wLedctl4 3 ∧
  StagesLed .wLedctl5 4 ∧
  StagesLed .wLedctl6 5 ∧
  StagesLed .wLedctl7 6 ∧
  StagesLed .wLedctl8 7 ∧
  StagesLed .wLedctl9 8 ∧
  StagesLed .wLedctl10 9 ∧
  StagesLed .wLedctl11 10 ∧
  StagesLed .wLedctl12 11 ∧
  StagesLed .wLedctl13 12 ∧
  StagesLed .wLedctl14 13 ∧
  StagesLed .wLedctl15 14 ∧
  StagesLed .wLedctl16 15 ∧
  StagesLed .wLedctl17 16 ∧
  StagesLed .wLedctl18 17 ∧
  StagesLed .wLedctl19 18 ∧
  StagesLed .wLedctl20 19 ∧
  StagesLed .wLedctl21 20 ∧
  StagesLed .wLedctl22 21 ∧
  StagesLed .wLedctl23 22 ∧
  StagesLed .wLedctl24 23 ∧
  StagesLed .wLedctl25 24 ∧
  StagesLed .wLedctl26 25 ∧
  StagesLed .wLedctl27 26 ∧
  StagesLed .wLedctl28 27

/-- W_UPDATE with UPDATE_VALUE copies all 56 staged bytes into the active copies at once and changes nothing else; with
nothing pending it changes nothing (R39), in either mode (in Shutdown mode by D14: log entry 13). -/
def Obligations.UpdateFrameLatches : Prop :=
  ∀ s : State, ∃ t, exec (.wUpdate s.params.updateValue) s = .next t ∧
    (∀ k : Fin 28, t.dev.pwmActive[k] = s.dev.pwmStaged[k] ∧ t.dev.ledActive[k] = s.dev.ledStaged[k]) ∧
    t.dev = { s.dev with pwmActive := t.dev.pwmActive, ledActive := t.dev.ledActive } ∧
    t = { s with dev := t.dev } ∧ (∀ r : Byte, t.dev.storedAt r = s.dev.storedAt r) ∧
    (s.dev.pwmActive = s.dev.pwmStaged → s.dev.ledActive = s.dev.ledStaged → t = s)

/-- W_UPDATE with another value has no meaning (U4; log entry 17). -/
def Obligations.UpdateFrameWithOtherValueRefused : Prop :=
  ∀ (s : State) (v : Byte), v ≠ s.params.updateValue →
    exec (.wUpdate v) s = .refused (.updateValueUndefined v)

/-- W_GLOBALCTL stores its byte, effective at once with no latch; 0x00 selects the maximum output current (D11, D14; log
entries 13, 14). -/
def Obligations.GlobalctlFrameImmediate : Prop :=
  ∀ (s : State) (v : Byte), ∃ t, exec (.wGlobalctl v) s = .next t ∧
    t = { s with dev := { s.dev with gcr := v } } ∧
    (∀ r : Byte, t.dev.storedAt r = if r = 0x4A then some v else s.dev.storedAt r) ∧
    (∀ k : Fin 28, t.dev.visible k = s.dev.visible k) ∧ (v = 0x00 → t.dev.scaling = some .maximum)

/-- W_OUTFREQ stores its byte, effective at once with no latch; 0x00 selects the low carrier, 0x01 the high (R41), in
either mode (in Shutdown mode by D14: log entry 13). -/
def Obligations.OutfreqFrameImmediate : Prop :=
  ∀ (s : State) (v : Byte), ∃ t, exec (.wOutfreq v) s = .next t ∧
    t = { s with dev := { s.dev with ofr := v } } ∧
    (∀ r : Byte, t.dev.storedAt r = if r = 0x4B then some v else s.dev.storedAt r) ∧
    (∀ k : Fin 28, t.dev.visible k = s.dev.visible k) ∧
    (v = 0x00 → t.dev.carrier = some .low) ∧ (v = 0x01 → t.dev.carrier = some .high)

/-- W_RESET, with any value and in either mode, gives every register of DEV its power-on default and changes nothing
else (R42; that both copies are cleared is D13, log entry 15). -/
def Obligations.ResetFrameGivesDefaults : Prop :=
  ∀ (s : State) (v : Byte), ∃ t, exec (.wReset v) s = .next t ∧ t = { s with dev := t.dev } ∧
    t.dev.sd = 0x00 ∧ t.dev.gcr = gcrDefault s.params ∧ t.dev.ofr = ofrDefault s.params ∧
    ∀ k : Fin 28, t.dev.pwmStaged[k] = 0x00 ∧ t.dev.pwmActive[k] = 0x00 ∧ t.dev.ledStaged[k] = 0x00 ∧
      t.dev.ledActive[k] = 0x00 ∧ t.dev.visible k = some .off

/-- Every write is idempotent: delivering a frame twice in a row leaves the state the first delivery left (R35). -/
def Obligations.FramesAreIdempotent : Prop :=
  ∀ (i : Instr) (s t : State), IsFrame i → exec i s = .next t → exec i t = .next t

/-- The mode changes by the frames of R98's table alone: Reset and Shutdown = 0 enter Shutdown, Shutdown = 1 enters Normal,
every other frame with a meaning leaves it. -/
def Obligations.ModeFollowsFrames : Prop :=
  ∀ (s t : State) (reg v : Byte) (i : Instr), decode (.bus16 (frameWord reg v)) = .ok i → exec i s = .next t →
    (reg = 0x4F → t.dev.mode = some .shutdown) ∧ (reg = 0x00 → v = 0x01 → t.dev.mode = some .normal) ∧
    (reg = 0x00 → v = 0x00 → t.dev.mode = some .shutdown) ∧
    (reg ≠ 0x4F → reg ≠ 0x00 → t.dev.mode = s.dev.mode)

/-! The engine. -/

/-- The microprogram of R81, row by row, and no row beside them. -/
def Obligations.MicroprogramRows : Prop :=
  ∀ (p : Params) (ch val : Byte),
    uop p .powerOn 0 ch val = some (frameWord 0x4F p.resetValue) ∧
    uop p .powerOn 1 ch val = some (frameWord 0x00 0x01) ∧
    (∀ n, 2 ≤ n → n ≤ 29 →
      uop p .powerOn (BitVec.ofNat 6 n) ch val = some (frameWord (BitVec.ofNat 8 (0x2A + (n - 2))) 0x01)) ∧
    uop p .powerOn 30 ch val = some (frameWord 0x25 p.updateValue) ∧
    uop p .powerOn 31 ch val = some (frameWord 0x4A 0x00) ∧
    uop p .powerOff 0 ch val = some (frameWord 0x00 0x00) ∧
    uop p .setFrequency 0 ch val = some (frameWord 0x4B val) ∧
    (1 ≤ ch.toNat → ch.toNat ≤ 28 →
      uop p .setPwm 0 ch val = some (frameWord (BitVec.ofNat 8 (0x05 + (ch.toNat - 1))) val)) ∧
    uop p .setPwm 1 ch val = some (frameWord 0x25 p.updateValue) ∧
    ∀ (op : Opcode) (n : MicroStep), lastStep op < n → uop p op n ch val = none

/-- ACCEPT (R83): an idle SEQ takes POWER_ON, POWER_OFF, SET_FREQUENCY and a SET_PWM of channel 1..28 with its operands,
`step` 0, no frame outstanding, and nothing but SEQ (and the free value for an unspecified `val`) changes; a SET_PWM of
another channel ends with PARAM_ERR, `busy` stays 0, no frame; a busy SEQ takes no command. -/
def Obligations.IdleSeqAcceptsCommands : Prop :=
  (∀ s : State, s.seq.busy = false →
    (∀ a b : Byte, ∃ t, exec (.powerOn a b) s = .next t ∧
      t = { s with
        seq := { s.seq with busy := true, pend := false, op := .powerOn, ch := a, val := t.seq.val, step := 0 }
        draws := t.draws }) ∧
    (∀ a b : Byte, ∃ t, exec (.powerOff a b) s = .next t ∧
      t = { s with
        seq := { s.seq with busy := true, pend := false, op := .powerOff, ch := a, val := t.seq.val, step := 0 }
        draws := t.draws }) ∧
    (∀ (a : Byte) (rsv : BitVec 7) (sel : BitVec 1), exec (.setFrequency a rsv sel) s =
      .next { s with
        seq := { s.seq with
          busy := true, pend := false, op := .setFrequency, ch := a, val := (if sel = 1 then 0x01 else 0x00), step := 0 } }) ∧
    (∀ c v : Byte, 1 ≤ c.toNat → c.toNat ≤ 28 → exec (.setPwm c v) s =
      .next { s with
        seq := { s.seq with busy := true, pend := false, op := .setPwm, ch := c, val := v, step := 0 } }) ∧
    (∀ c v : Byte, c.toNat < 1 ∨ 28 < c.toNat → ∃ t, exec (.setPwm c v) s = .next t ∧
      t.results = s.results ++ [.paramErr] ∧ t.seq.busy = false ∧ t.trace = s.trace ∧ t.dev = s.dev)) ∧
  (∀ s t : State, s.seq.busy = true → step s = .next t → t.commands = s.commands)

/-- A command presented while another is in progress is not accepted: nothing changes (D21; log entry 24). -/
def Obligations.BusySeqAcceptsNothing : Prop :=
  ∀ (s : State) (w : CmdWord) (i : Instr), s.seq.busy = true → decode (.cmd18 w) = .ok i → exec i s = .next s

/-- SET_PWM of a channel outside 1..28 ends at once with PARAM_ERR, code 01, no payload, no frame, DEV untouched, SEQ
idle; no other step reports a parameter error (R131). -/
def Obligations.ParameterErrorOnlyForBadChannel : Prop :=
  (∀ (s : State) (c v : Byte), Idle s → c.toNat < 1 ∨ 28 < c.toNat →
    exec (.setPwm c v) s = .next { s with results := s.results ++ [.paramErr] }) ∧
  Result.paramErr.status = 0b01 ∧ Result.paramErr.err = none ∧
  (∀ s t : State, step s = .next t → t.results = s.results ++ [.paramErr] →
    s.seq.busy = false ∧ ∃ w rest c v, s.commands = w :: rest ∧ decode (.cmd18 w) = .ok (.setPwm c v) ∧
      (c.toNat < 1 ∨ 28 < c.toNat))

/-- ISSUE (R84): with a command in progress and no frame outstanding, where nothing of the outside world comes first, SEQ
presents the frame of the step with the stored address, appends it to the trace and sets `pend`; nothing else changes
(but for a `later` that gave SEQ the move: log entry 2). In no other step is a frame presented. -/
def Obligations.IssuePresentsOneFrame : Prop :=
  (∀ (s : State) (f : FrameWord), s.seq.busy = true → s.seq.pend = false → Calm s.env →
    uop s.params s.seq.op s.seq.step s.seq.ch s.seq.val = some f →
    step s = .next { s.moving with
      seq := { s.seq with pend := true }
      bus := .carrying s.seq.address f
      trace := s.trace ++ [⟨s.seq.address, f⟩] }) ∧
  (∀ s t : State, step s = .next t → t.trace ≠ s.trace ∨ t.bus ≠ s.bus ∧ t.busWrite ≠ none →
    s.seq.busy = true ∧ s.seq.pend = false)

/-- WAIT (R85): while a frame is outstanding no event moves SEQ, whatever BUS, other actors and the platform do: no second
frame, no command, no time-out, no retry. If BUS never answers, nothing ever moves. -/
def Obligations.UnansweredFrameWaitsForEver : Prop :=
  (∀ (s t : State) (d : BusAddr) (f : FrameWord),
    s.seq.busy = true → s.seq.pend = true → s.bus = .carrying d f → step s = .next t →
    t.seq = s.seq ∧ t.commands = s.commands ∧ t.trace = s.trace ∧ t.results = s.results) ∧
  (∀ (s : State) (d : BusAddr) (f : FrameWord) (n : Nat),
    s.seq.busy = true → s.seq.pend = true → s.bus = .carrying d f → s.env = [] → runSteps n s = .next s)

/-- A frame that BUS answers with a failure has not changed DEV; SEQ has the answer to take (D10; log entry 12). -/
def Obligations.FailedFrameLeavesDev : Prop :=
  ∀ (s : State) (d : BusAddr) (f : FrameWord) (e : BusErr) (rest : List EnvEvent),
    s.seq.busy = true → s.seq.pend = true → s.bus = .carrying d f → s.env = .answer (.fail e) :: rest →
    step s = .next { s with env := rest, bus := .answered (.fail e), answers := s.answers ++ [.fail e] }

/-- RESPONSE-OK (R86): at the last step the command ends with OK; before it, the step counter goes up by one, and in a
state that meets the invariant of the engine the addition cannot wrap. (A `later` that gave SEQ the move is gone: log
entry 2.) -/
def Obligations.ResponseOkAdvancesOrEnds : Prop :=
  ∀ s : State, s.seq.busy = true → s.seq.pend = true → s.bus = .answered .ok → Calm s.env →
    (s.seq.step = lastStep s.seq.op →
      step s = .next { s.moving with
        seq := { s.seq with busy := false, pend := false }, bus := .quiet, results := s.results ++ [.ok] }) ∧
    (s.seq.step ≠ lastStep s.seq.op →
      step s = .next { s.moving with seq := { s.seq with pend := false, step := s.seq.step + 1 }, bus := .quiet }) ∧
    (EngineOk s → s.seq.step ≠ lastStep s.seq.op →
      s.seq.step.toNat < 31 ∧ (s.seq.step + 1).toNat = s.seq.step.toNat + 1)

/-- RESPONSE-FAIL (R87): the command ends at once with BUS's own error, `step` keeps the index of the failed frame,
nothing is issued, re-issued or undone. (A `later` that gave SEQ the move is gone: log entry 2.) -/
def Obligations.ResponseFailEndsCommand : Prop :=
  ∀ (s : State) (e : BusErr), s.seq.busy = true → s.seq.pend = true → s.bus = .answered (.fail e) →
    Calm s.env →
    step s = .next { s.moving with
      seq := { s.seq with busy := false, pend := false }, bus := .quiet, results := s.results ++ [.busErr e] }

/-- The result codes: 00 OK, 01 PARAM_ERR, 10 BUS_ERR with its error, 11 never (D3; log entry 28). -/
def Obligations.ResultCodes : Prop :=
  Result.ok.status = 0b00 ∧ Result.paramErr.status = 0b01 ∧ (∀ e, (Result.busErr e).status = 0b10) ∧
  (∀ e, (Result.busErr e).err = some e) ∧ ∀ r : Result, r.status ≠ 0b11

/-- An idle SEQ with no command presented issues nothing and reports nothing, for ever, whatever the outside world does; and
where the outside world has nothing but answers, nothing changes (R90). -/
def Obligations.IdleSeqIssuesNothing : Prop :=
  (∀ (s t : State) (n : Nat), s.seq.busy = false → s.commands = [] → runSteps n s = .next t →
    t.seq.busy = false ∧ t.trace = s.trace ∧ t.results = s.results ∧ t.answers = s.answers) ∧
  (∀ (s : State) (n : Nat), s.seq.busy = false → s.commands = [] → OnlyAnswers s.env → runSteps n s = .next s)

/-! Whole commands. -/

/-- Every command issues its frames in order, each after the `ok` to the one before, stops at the first failure and
reports that failure, whatever DEV holds and whether or not SEQ's address names DEV. That it completes needs the answers;
what it issues on any bus is CommandTraceOnAnyBus. -/
def Obligations.CommandsRunTheirFrames : Prop := EveryCommand RunsFrames

/-- POWER_ON, all frames answered `ok`, brings DEV from any state into Normal mode with all 28 channels enabled, every PWM
value zero and maximum current; OutputFrequency is left at its default (41_lifecycle.md, POWER_ON's effect; D11, D13: log
entries 14, 15). -/
def Obligations.PowerOnReachesOperationalState : Prop :=
  ∀ (s : State) (a b : Byte) (rest : List EnvEvent), Idle s → s.seq.address = s.params.strap → Calm rest →
    s.env = answerEvents (List.replicate 32 .ok) ++ rest →
    ∃ t u, exec (.powerOn a b) s = .next t ∧ runSteps 96 t = .next u ∧
      u.results = s.results ++ [.ok] ∧ Idle u ∧
      u.dev.sd = 0x01 ∧ u.dev.gcr = 0x00 ∧ u.dev.ofr = ofrDefault s.params ∧
      u.dev.globalVisible = some (u.dev.carrier, some .maximum) ∧
      ∀ k : Fin 28, u.dev.ledStaged[k] = 0x01 ∧ u.dev.ledActive[k] = 0x01 ∧ u.dev.pwmStaged[k] = 0x00 ∧
        u.dev.pwmActive[k] = 0x00 ∧ u.dev.visible k = some (.on 0x00)

/-- POWER_ON failing at its write `k` (1..32) leaves DEV as its first `k - 1` frames did, by the rows of the partial-state
table (60_exceptions.md, section 2; D10, D13: log entries 12, 15), and reports that failure after `k` frames. -/
def Obligations.PowerOnFailureLeavesPartialState : Prop :=
  ∀ (s : State) (a b : Byte) (k : Nat) (e : BusErr) (rest : List EnvEvent), 1 ≤ k → k ≤ 32 → Idle s →
    s.seq.address = s.params.strap → Calm rest →
    s.env = answerEvents (List.replicate (k - 1) .ok ++ [.fail e]) ++ rest →
    ∃ t u, exec (.powerOn a b) s = .next t ∧ runSteps (3 * k) t = .next u ∧
      u.results = s.results ++ [.busErr e] ∧ Idle u ∧ u.trace.length = s.trace.length + k ∧
      u.dev = powerOnDev s.params s.dev (k - 1)

/-- POWER_OFF: one frame; answered `ok` it puts DEV in Shutdown mode, every output off, every other byte kept; answered
with a failure it leaves DEV as it was (41_lifecycle.md, POWER_OFF; the failure by D10: log entry 12). Of a channel whose
active enable is a byte the document does not define it says only that the channel does not show on (R45, D20: log
entry 29). -/
def Obligations.PowerOffDarkensAndKeeps : Prop :=
  ∀ (s : State) (a b : Byte), Idle s → s.seq.address = s.params.strap →
    (∀ rest, Calm rest → s.env = answerEvents [.ok] ++ rest →
      ∃ t u, exec (.powerOff a b) s = .next t ∧ runSteps 3 t = .next u ∧ u.results = s.results ++ [.ok] ∧ Idle u ∧
        u.dev = { s.dev with sd := 0x00 } ∧ u.dev.mode = some .shutdown ∧ OutputsOff u.dev) ∧
    (∀ e rest, Calm rest → s.env = answerEvents [.fail e] ++ rest →
      ∃ t u, exec (.powerOff a b) s = .next t ∧ runSteps 3 t = .next u ∧ u.results = s.results ++ [.busErr e] ∧
        Idle u ∧ u.dev = s.dev)

/-- SET_FREQUENCY: one frame; answered `ok` OutputFrequency holds the selector's code at once and nothing else of DEV
changes, no pending byte is latched; answered with a failure DEV is as it was (43_control_regs.md, SET_FREQUENCY; D10, and
D14 in Shutdown mode: log entries 12, 13). -/
def Obligations.SetFrequencySelectsCarrier : Prop :=
  ∀ (s : State) (a : Byte) (rsv : BitVec 7) (sel : BitVec 1), Idle s → s.seq.address = s.params.strap →
    (∀ rest, Calm rest → s.env = answerEvents [.ok] ++ rest →
      ∃ t u, exec (.setFrequency a rsv sel) s = .next t ∧ runSteps 3 t = .next u ∧ u.results = s.results ++ [.ok] ∧
        Idle u ∧ u.dev = { s.dev with ofr := if sel = 1 then 0x01 else 0x00 } ∧
        u.dev.carrier = some (if sel = 1 then .high else .low) ∧
        (s.dev.mode = some .normal →
          u.dev.globalVisible = some (some (if sel = 1 then .high else .low), s.dev.scaling))) ∧
    (∀ e rest, Calm rest → s.env = answerEvents [.fail e] ++ rest →
      ∃ t u, exec (.setFrequency a rsv sel) s = .next t ∧ runSteps 3 t = .next u ∧
        u.results = s.results ++ [.busErr e] ∧ Idle u ∧ u.dev = s.dev)

/-- SET_PWM, both frames answered `ok`: the channel's byte is staged and active, every other pending byte has become active
with it, and in Normal mode the channel, where its staged enable is 0x01, is on with that duty (R45); Shutdown,
GlobalControl and OutputFrequency are as before (42_pwm_latch.md, SET_PWM; in Shutdown mode by D14: log entry 13). -/
def Obligations.SetPwmStagesAndLatches : Prop :=
  ∀ (s : State) (c v : Byte) (rest : List EnvEvent), 1 ≤ c.toNat → c.toNat ≤ 28 → Idle s →
    s.seq.address = s.params.strap → Calm rest → s.env = answerEvents [.ok, .ok] ++ rest →
    ∃ t u, exec (.setPwm c v) s = .next t ∧ runSteps 6 t = .next u ∧ u.results = s.results ++ [.ok] ∧ Idle u ∧
      (∀ k : Fin 28, u.dev.pwmStaged[k] = (if k.val + 1 = c.toNat then v else s.dev.pwmStaged[k]) ∧
        u.dev.pwmActive[k] = (if k.val + 1 = c.toNat then v else s.dev.pwmStaged[k]) ∧
        u.dev.ledStaged[k] = s.dev.ledStaged[k] ∧ u.dev.ledActive[k] = s.dev.ledStaged[k]) ∧
      (∀ k : Fin 28, k.val + 1 = c.toNat → s.dev.mode = some .normal → s.dev.ledStaged[k] = 0x01 →
        u.dev.visible k = some (.on v)) ∧
      u.dev.sd = s.dev.sd ∧ u.dev.gcr = s.dev.gcr ∧ u.dev.ofr = s.dev.ofr

/-- SET_PWM failing at its first frame leaves DEV as it was; failing at the latch it leaves the value staged and not
visible (42_pwm_latch.md, SET_PWM corner case c; 60_exceptions.md, section 2; D10, and D14 in Shutdown mode: log entries 12,
13). -/
def Obligations.SetPwmFailureIsNotVisible : Prop :=
  ∀ (s : State) (c v : Byte) (e : BusErr) (rest : List EnvEvent), 1 ≤ c.toNat → c.toNat ≤ 28 → Idle s →
    s.seq.address = s.params.strap → Calm rest →
    (s.env = answerEvents [.fail e] ++ rest →
      ∃ t u, exec (.setPwm c v) s = .next t ∧ runSteps 3 t = .next u ∧ u.results = s.results ++ [.busErr e] ∧
        Idle u ∧ u.dev = s.dev) ∧
    (s.env = answerEvents [.ok, .fail e] ++ rest →
      ∃ t u, exec (.setPwm c v) s = .next t ∧ runSteps 6 t = .next u ∧ u.results = s.results ++ [.busErr e] ∧
        Idle u ∧
        (∀ k : Fin 28, u.dev.pwmStaged[k] = if k.val + 1 = c.toNat then v else s.dev.pwmStaged[k]) ∧
        u.dev = { s.dev with pwmStaged := u.dev.pwmStaged } ∧
        ∀ k : Fin 28, u.dev.visible k = s.dev.visible k)

/-! The whole machine. -/

/-- Every event keeps the invariant of the engine: from any state that meets it, whatever BUS, other actors, the caller
and the platform do. -/
def Obligations.StepKeepsEngineInvariant : Prop :=
  ∀ s t : State, EngineOk s → step s = .next t → EngineOk t

/-- The state after reset meets the invariant of the engine. -/
def Obligations.ResetMeetsEngineInvariant : Prop := EngineOk State.reset

/-- On an exclusive bus nothing stops the machine but a CONSTRUCT while a command is in progress: from any state that meets
the engine's invariant every other event has a next state that meets it again, so SEQ never sends a frame DEV has no
meaning for and never leaves its microprogram; where all the outside world does is to answer, it goes on so for ever. -/
def Obligations.ExclusiveBusNeverStops : Prop :=
  ∀ s : State, EngineOk s → ¬ ForeignFrameNext s →
    (s.seq.busy = true → ∀ a rest, s.env ≠ .construct a :: rest) →
    ∃ t, step s = .next t ∧ EngineOk t ∧ (OnlyAnswers s.env → OnlyAnswers t.env)

/-- SEQ issues no frame outside the set of 30_encoding.md section 3, and at most one an event, to the stored address. -/
def Obligations.IssuedFramesAreOfTheSet : Prop :=
  ∀ s t : State, EngineOk s → step s = .next t →
    t.trace = s.trace ∨ ∃ f, Issuable s.params f ∧ t.trace = s.trace ++ [⟨s.seq.address, f⟩]

/-- DEV changes only when a frame for it is delivered, SEQ's or another actor's, or at its own power-on (R4). -/
def Obligations.DevChangesOnlyOnDelivery : Prop :=
  ∀ s t : State, step s = .next t → t.dev ≠ s.dev →
    (∃ f rest, s.env = .foreign s.params.strap f :: rest) ∨ (∃ rest, s.env = .devPowerOn :: rest) ∨
    (∃ f rest, s.seq.pend = true ∧ s.bus = .carrying s.params.strap f ∧ s.env = .answer .ok :: rest)

/-- The address changes by CONSTRUCT alone, and the parameters never change (R10, R25). -/
def Obligations.AddressChangesByConstructOnly : Prop :=
  ∀ s t : State, step s = .next t →
    t.params = s.params ∧ (t.seq.address = s.seq.address ∨ ∃ rest, s.env = .construct t.seq.address :: rest)

/-- A step reports at most one result, and SEQ is idle after it. OK and BUS_ERR come of the answer of BUS that the step
takes, BUS_ERR with BUS's own error; PARAM_ERR comes to an idle SEQ, with no frame (R88, R131, R132). -/
def Obligations.ResultsEndCommands : Prop :=
  ∀ s t : State, step s = .next t →
    t.results = s.results ∨
    ∃ r, t.results = s.results ++ [r] ∧ t.seq.busy = false ∧ t.seq.pend = false ∧
      (r = .ok → s.bus = .answered .ok ∧ s.seq.step = lastStep s.seq.op) ∧
      (∀ e, r = .busErr e → s.bus = .answered (.fail e)) ∧
      (r = .paramErr → s.seq.busy = false ∧ t.trace = s.trace)

/-- What SEQ does depends on nothing that DEV holds: from two states that differ in DEV alone, one step leads to two
states that differ in DEV alone (R80). -/
def Obligations.SeqBlindToDev : Prop :=
  ∀ (s t : State) (d : Dev), step s = .next t → ∃ d', step { s with dev := d } = .next { t with dev := d' }

/-- The trace of every command is a prefix of its microsequence whatever the outside world does, with no premise of
exclusive access (R89, R170: the trace claims "hold without it"). -/
def Obligations.CommandTraceOnAnyBus : Prop := EveryCommand TraceOnAnyBus

/-- Under the premise of R170, exclusive access from the ACCEPT of a command to its result and no longer, DEV is at every
event within the command, and at its end, as the frames answered `ok` left it; a failed frame changed nothing and the
effect of each frame is the model's (D10, D11, D13, D14: log entries 12 to 15). That DEV is not powered on meanwhile is a
premise of its own. -/
def Obligations.CommandDevOnExclusiveBus : Prop := EveryCommand DevOnExclusiveBus

/-- The visible settings, row by row (R45): off in Shutdown mode; in Normal mode off where the active enable of the channel
is 0x00, and on with the active duty of that channel where it is 0x01; nothing where the mode or, in any mode, the enable
is a byte the document does not define (D20, U3: log entries 16, 29). The carrier and the current scaling have a meaning
in Normal mode only. -/
def Obligations.VisibleSettings : Prop :=
  ∀ d : Dev,
    (d.sd = 0x00 → OutputsOff d ∧ d.globalVisible = none) ∧
    (∀ k : Fin 28, d.ledActive[k] ≠ 0x00 → d.ledActive[k] ≠ 0x01 → d.visible k = none) ∧
    (d.sd = 0x01 →
      (∀ k : Fin 28, (d.ledActive[k] = 0x00 → d.visible k = some .off) ∧
        (d.ledActive[k] = 0x01 → d.visible k = some (.on d.pwmActive[k]))) ∧
      d.globalVisible = some (d.carrier, d.scaling)) ∧
    (d.sd ≠ 0x00 → d.sd ≠ 0x01 → (∀ k : Fin 28, d.visible k = none) ∧ d.globalVisible = none)
end

