-- ==== Sys2Proof/Laws/Decode.lean ====
section
/-! SUPPORT. The fields of a word built from fields, and the word as a number (R60, R66). -/

namespace Sys2Proof

/-- A frame word as a number. -/
theorem frameWord_toNat (reg v : Byte) : (frameWord reg v).toNat = reg.toNat * 256 + v.toNat := by
  have h : (frameWord reg v).toNat = reg.toNat <<< 8 ||| v.toNat := BitVec.toNat_append reg v
  rw [h, ← Nat.shiftLeft_add_eq_or_of_lt v.isLt, Nat.shiftLeft_eq]

/-- The fields of a frame word as numbers. -/
theorem frameReg_toNat (f : FrameWord) : (frameReg f).toNat = f.toNat / 256 := by
  have := f.isLt
  simp only [frameReg, BitVec.extractLsb'_toNat, Nat.shiftRight_eq_div_pow]
  omega

theorem frameVal_toNat (f : FrameWord) : (frameVal f).toNat = f.toNat % 256 := by
  simp only [frameVal, BitVec.extractLsb'_toNat, Nat.shiftRight_eq_div_pow]
  omega

@[simp] theorem frameReg_frameWord (reg v : Byte) : frameReg (frameWord reg v) = reg := by
  apply BitVec.eq_of_toNat_eq; rw [frameReg_toNat, frameWord_toNat]; omega

@[simp] theorem frameVal_frameWord (reg v : Byte) : frameVal (frameWord reg v) = v := by
  apply BitVec.eq_of_toNat_eq; rw [frameVal_toNat, frameWord_toNat]; omega

/-- A frame word is its two fields. -/
theorem frameWord_fields (f : FrameWord) : frameWord (frameReg f) (frameVal f) = f := by
  apply BitVec.eq_of_toNat_eq; rw [frameWord_toNat, frameReg_toNat, frameVal_toNat]; omega

/-- A command word as a number. -/
theorem cmdWord_toNat (op : BitVec 2) (a b : Byte) :
    (cmdWord op a b).toNat = op.toNat * 65536 + a.toNat * 256 + b.toNat := by
  have h1 : (cmdWord op a b).toNat = (op ++ a).toNat <<< 8 ||| b.toNat := BitVec.toNat_append (op ++ a) b
  have h2 : (op ++ a).toNat = op.toNat <<< 8 ||| a.toNat := BitVec.toNat_append op a
  rw [h1, ← Nat.shiftLeft_add_eq_or_of_lt b.isLt, h2, ← Nat.shiftLeft_add_eq_or_of_lt a.isLt, Nat.shiftLeft_eq,
    Nat.shiftLeft_eq]
  omega

/-- The fields of a command word as numbers. -/
theorem cmdOp_toNat (w : CmdWord) : (cmdOp w).toNat = w.toNat / 65536 := by
  have := w.isLt
  simp only [cmdOp, BitVec.extractLsb'_toNat, Nat.shiftRight_eq_div_pow]; omega

theorem cmdA_toNat (w : CmdWord) : (cmdA w).toNat = w.toNat / 256 % 256 := by
  simp only [cmdA, BitVec.extractLsb'_toNat, Nat.shiftRight_eq_div_pow]

theorem cmdB_toNat (w : CmdWord) : (cmdB w).toNat = w.toNat % 256 := by
  simp only [cmdB, BitVec.extractLsb'_toNat, Nat.shiftRight_eq_div_pow]; omega

@[simp] theorem cmdOp_cmdWord (op : BitVec 2) (a b : Byte) : cmdOp (cmdWord op a b) = op := by
  apply BitVec.eq_of_toNat_eq; rw [cmdOp_toNat, cmdWord_toNat]; omega

@[simp] theorem cmdA_cmdWord (op : BitVec 2) (a b : Byte) : cmdA (cmdWord op a b) = a := by
  apply BitVec.eq_of_toNat_eq; rw [cmdA_toNat, cmdWord_toNat]; omega

@[simp] theorem cmdB_cmdWord (op : BitVec 2) (a b : Byte) : cmdB (cmdWord op a b) = b := by
  apply BitVec.eq_of_toNat_eq; rw [cmdB_toNat, cmdWord_toNat]; omega

/-- A command word is its three fields. -/
theorem cmdWord_fields (w : CmdWord) : cmdWord (cmdOp w) (cmdA w) (cmdB w) = w := by
  apply BitVec.eq_of_toNat_eq; rw [cmdWord_toNat, cmdOp_toNat, cmdA_toNat, cmdB_toNat]; omega

/-- Operand B of SET_FREQUENCY as a number. -/
theorem selByte_toNat (rsv : BitVec 7) (sel : BitVec 1) : (rsv ++ sel : BitVec 8).toNat = rsv.toNat * 2 + sel.toNat := by
  have h : (rsv ++ sel : BitVec 8).toNat = rsv.toNat <<< 1 ||| sel.toNat := BitVec.toNat_append rsv sel
  rw [h, ← Nat.shiftLeft_add_eq_or_of_lt sel.isLt, Nat.shiftLeft_eq]

/-- A mask over the high bits of a number drops its low bits. -/
theorem high_mask (n k m M : Nat) (hk : k < 2 ^ m) : (n * 2 ^ m + k) &&& (M * 2 ^ m) = (n &&& M) * 2 ^ m := by
  apply Nat.eq_of_testBit_eq
  intro i
  rw [Nat.testBit_and, Nat.testBit_mul_two_pow, Nat.testBit_mul_two_pow, Nat.testBit_and]
  by_cases h : m ≤ i
  · simp only [h, decide_true, Bool.true_and]
    rw [Nat.mul_comm, Nat.testBit_two_pow_mul_add _ hk]
    simp [Nat.not_lt.mpr h]
  · simp [h]

/-- Under a frame row's mask the register address is left (R67). -/
theorem frame_masked (reg v : Byte) : (frameWord reg v).toNat &&& 0xFF00 = reg.toNat * 256 := by
  rw [frameWord_toNat]
  refine (high_mask reg.toNat v.toNat 8 255 v.isLt).trans ?_
  rw [show (255 : Nat) = 2 ^ 8 - 1 from rfl, Nat.and_two_pow_sub_one_eq_mod, Nat.mod_eq_of_lt reg.isLt]
  norm_num

/-- Under a command row's mask the opcode is left (R62). -/
theorem command_masked (op : BitVec 2) (a b : Byte) : (cmdWord op a b).toNat &&& 0x30000 = op.toNat * 65536 := by
  rw [cmdWord_toNat, Nat.add_assoc]
  refine (high_mask op.toNat (a.toNat * 256 + b.toNat) 16 3 (by omega)).trans ?_
  rw [show (3 : Nat) = 2 ^ 2 - 1 from rfl, Nat.and_two_pow_sub_one_eq_mod, Nat.mod_eq_of_lt op.isLt]
  norm_num

/-- Decoding a frame is the register map on its two fields. -/
theorem decodeFrame_frameWord (reg v : Byte) :
    decodeFrame (frameWord reg v) =
      match frameInstr reg v with
      | some i => .ok i
      | none => .error (.unmapped reg) := by
  cases h : frameInstr reg v <;> simp only [decodeFrame, frameReg_frameWord, frameVal_frameWord, h]

/-- An instruction the register map gives is encoded at that register address, with that value. -/
theorem frameInstr_encode {reg v : Byte} {i : Instr} (h : frameInstr reg v = some i) :
    encode i = .bus16 (frameWord reg v) := by
  unfold frameInstr at h
  split at h <;> first | (cases h; rfl) | cases h

/-- A frame that decodes gives the instruction the register map has for its fields. -/
theorem decode_bus16 {f : FrameWord} {i : Instr} (h : decode (.bus16 f) = .ok i) :
    frameInstr (frameReg f) (frameVal f) = some i := by
  simp only [decode, decodeFrame] at h
  split at h
  · next j hj => rw [hj]; simpa using h
  · cases h

end Sys2Proof
end

