-- ==== Sys2Proof/Laws/State.lean ====
section
/-! SUPPORT. One lemma per field per named update of the state, each true by definition, so that no proof unfolds a record
update. -/

namespace Sys2Proof.Machine

@[simp] theorem State.setDev_seq (s : State) (d : Dev) : (s.setDev d).seq = s.seq := rfl
@[simp] theorem State.setDev_dev (s : State) (d : Dev) : (s.setDev d).dev = d := rfl
@[simp] theorem State.setDev_bus (s : State) (d : Dev) : (s.setDev d).bus = s.bus := rfl
@[simp] theorem State.setDev_commands (s : State) (d : Dev) : (s.setDev d).commands = s.commands := rfl
@[simp] theorem State.setDev_env (s : State) (d : Dev) : (s.setDev d).env = s.env := rfl
@[simp] theorem State.setDev_trace (s : State) (d : Dev) : (s.setDev d).trace = s.trace := rfl
@[simp] theorem State.setDev_answers (s : State) (d : Dev) : (s.setDev d).answers = s.answers := rfl
@[simp] theorem State.setDev_results (s : State) (d : Dev) : (s.setDev d).results = s.results := rfl
@[simp] theorem State.setDev_params (s : State) (d : Dev) : (s.setDev d).params = s.params := rfl
@[simp] theorem State.setDev_draws (s : State) (d : Dev) : (s.setDev d).draws = s.draws := rfl

@[simp] theorem State.setSeq_seq (s : State) (q : Seq) : (s.setSeq q).seq = q := rfl
@[simp] theorem State.setSeq_dev (s : State) (q : Seq) : (s.setSeq q).dev = s.dev := rfl
@[simp] theorem State.setSeq_bus (s : State) (q : Seq) : (s.setSeq q).bus = s.bus := rfl
@[simp] theorem State.setSeq_commands (s : State) (q : Seq) : (s.setSeq q).commands = s.commands := rfl
@[simp] theorem State.setSeq_env (s : State) (q : Seq) : (s.setSeq q).env = s.env := rfl
@[simp] theorem State.setSeq_trace (s : State) (q : Seq) : (s.setSeq q).trace = s.trace := rfl
@[simp] theorem State.setSeq_answers (s : State) (q : Seq) : (s.setSeq q).answers = s.answers := rfl
@[simp] theorem State.setSeq_results (s : State) (q : Seq) : (s.setSeq q).results = s.results := rfl
@[simp] theorem State.setSeq_params (s : State) (q : Seq) : (s.setSeq q).params = s.params := rfl
@[simp] theorem State.setSeq_draws (s : State) (q : Seq) : (s.setSeq q).draws = s.draws := rfl

@[simp] theorem State.report_seq (s : State) (r : Result) : (s.report r).seq = s.seq := rfl
@[simp] theorem State.report_dev (s : State) (r : Result) : (s.report r).dev = s.dev := rfl
@[simp] theorem State.report_bus (s : State) (r : Result) : (s.report r).bus = s.bus := rfl
@[simp] theorem State.report_commands (s : State) (r : Result) : (s.report r).commands = s.commands := rfl
@[simp] theorem State.report_env (s : State) (r : Result) : (s.report r).env = s.env := rfl
@[simp] theorem State.report_trace (s : State) (r : Result) : (s.report r).trace = s.trace := rfl
@[simp] theorem State.report_answers (s : State) (r : Result) : (s.report r).answers = s.answers := rfl
@[simp] theorem State.report_results (s : State) (r : Result) : (s.report r).results = s.results ++ [r] := rfl
@[simp] theorem State.report_params (s : State) (r : Result) : (s.report r).params = s.params := rfl
@[simp] theorem State.report_draws (s : State) (r : Result) : (s.report r).draws = s.draws := rfl

@[simp] theorem State.drew_seq (s : State) (n : Nat) : (s.drew n).seq = s.seq := rfl
@[simp] theorem State.drew_dev (s : State) (n : Nat) : (s.drew n).dev = s.dev := rfl
@[simp] theorem State.drew_bus (s : State) (n : Nat) : (s.drew n).bus = s.bus := rfl
@[simp] theorem State.drew_commands (s : State) (n : Nat) : (s.drew n).commands = s.commands := rfl
@[simp] theorem State.drew_env (s : State) (n : Nat) : (s.drew n).env = s.env := rfl
@[simp] theorem State.drew_trace (s : State) (n : Nat) : (s.drew n).trace = s.trace := rfl
@[simp] theorem State.drew_answers (s : State) (n : Nat) : (s.drew n).answers = s.answers := rfl
@[simp] theorem State.drew_results (s : State) (n : Nat) : (s.drew n).results = s.results := rfl
@[simp] theorem State.drew_params (s : State) (n : Nat) : (s.drew n).params = s.params := rfl
@[simp] theorem State.drew_draws (s : State) (n : Nat) : (s.drew n).draws = s.draws + n := rfl

@[simp] theorem State.gotAnswer_seq (s : State) (a : BusAnswer) (l : List EnvEvent) : (s.gotAnswer a l).seq = s.seq := rfl
@[simp] theorem State.gotAnswer_dev (s : State) (a : BusAnswer) (l : List EnvEvent) : (s.gotAnswer a l).dev = s.dev := rfl
@[simp] theorem State.gotAnswer_bus (s : State) (a : BusAnswer) (l : List EnvEvent) : (s.gotAnswer a l).bus = .answered a := rfl
@[simp] theorem State.gotAnswer_commands (s : State) (a : BusAnswer) (l : List EnvEvent) : (s.gotAnswer a l).commands = s.commands := rfl
@[simp] theorem State.gotAnswer_env (s : State) (a : BusAnswer) (l : List EnvEvent) : (s.gotAnswer a l).env = l := rfl
@[simp] theorem State.gotAnswer_trace (s : State) (a : BusAnswer) (l : List EnvEvent) : (s.gotAnswer a l).trace = s.trace := rfl
@[simp] theorem State.gotAnswer_answers (s : State) (a : BusAnswer) (l : List EnvEvent) : (s.gotAnswer a l).answers = s.answers ++ [a] := rfl
@[simp] theorem State.gotAnswer_results (s : State) (a : BusAnswer) (l : List EnvEvent) : (s.gotAnswer a l).results = s.results := rfl
@[simp] theorem State.gotAnswer_params (s : State) (a : BusAnswer) (l : List EnvEvent) : (s.gotAnswer a l).params = s.params := rfl
@[simp] theorem State.gotAnswer_draws (s : State) (a : BusAnswer) (l : List EnvEvent) : (s.gotAnswer a l).draws = s.draws := rfl

@[simp] theorem State.moving_seq (s : State) : s.moving.seq = s.seq := rfl
@[simp] theorem State.moving_dev (s : State) : s.moving.dev = s.dev := rfl
@[simp] theorem State.moving_bus (s : State) : s.moving.bus = s.bus := rfl
@[simp] theorem State.moving_commands (s : State) : s.moving.commands = s.commands := rfl
@[simp] theorem State.moving_trace (s : State) : s.moving.trace = s.trace := rfl
@[simp] theorem State.moving_answers (s : State) : s.moving.answers = s.answers := rfl
@[simp] theorem State.moving_results (s : State) : s.moving.results = s.results := rfl
@[simp] theorem State.moving_params (s : State) : s.moving.params = s.params := rfl
@[simp] theorem State.moving_draws (s : State) : s.moving.draws = s.draws := rfl
@[simp] theorem State.moving_env (s : State) : s.moving.env = afterMove s.env := rfl

@[simp] theorem endCommand_seq (s : State) (r : Result) : (endCommand r s).seq = { s.seq with busy := false, pend := false } := rfl
@[simp] theorem endCommand_dev (s : State) (r : Result) : (endCommand r s).dev = s.dev := rfl
@[simp] theorem endCommand_bus (s : State) (r : Result) : (endCommand r s).bus = s.bus := rfl
@[simp] theorem endCommand_commands (s : State) (r : Result) : (endCommand r s).commands = s.commands := rfl
@[simp] theorem endCommand_env (s : State) (r : Result) : (endCommand r s).env = s.env := rfl
@[simp] theorem endCommand_trace (s : State) (r : Result) : (endCommand r s).trace = s.trace := rfl
@[simp] theorem endCommand_answers (s : State) (r : Result) : (endCommand r s).answers = s.answers := rfl
@[simp] theorem endCommand_results (s : State) (r : Result) : (endCommand r s).results = s.results ++ [r] := rfl
@[simp] theorem endCommand_params (s : State) (r : Result) : (endCommand r s).params = s.params := rfl
@[simp] theorem endCommand_draws (s : State) (r : Result) : (endCommand r s).draws = s.draws := rfl

@[simp] theorem accepted_seq (s : State) (op : Opcode) (a v : Byte) : (accepted op a v s).seq = { s.seq with op := op, ch := a, val := v, step := 0#6, pend := false, busy := true } := rfl
@[simp] theorem accepted_dev (s : State) (op : Opcode) (a v : Byte) : (accepted op a v s).dev = s.dev := rfl
@[simp] theorem accepted_bus (s : State) (op : Opcode) (a v : Byte) : (accepted op a v s).bus = s.bus := rfl
@[simp] theorem accepted_commands (s : State) (op : Opcode) (a v : Byte) : (accepted op a v s).commands = s.commands := rfl
@[simp] theorem accepted_env (s : State) (op : Opcode) (a v : Byte) : (accepted op a v s).env = s.env := rfl
@[simp] theorem accepted_trace (s : State) (op : Opcode) (a v : Byte) : (accepted op a v s).trace = s.trace := rfl
@[simp] theorem accepted_answers (s : State) (op : Opcode) (a v : Byte) : (accepted op a v s).answers = s.answers := rfl
@[simp] theorem accepted_results (s : State) (op : Opcode) (a v : Byte) : (accepted op a v s).results = s.results := rfl
@[simp] theorem accepted_params (s : State) (op : Opcode) (a v : Byte) : (accepted op a v s).params = s.params := rfl
@[simp] theorem accepted_draws (s : State) (op : Opcode) (a v : Byte) : (accepted op a v s).draws = s.draws := rfl

@[simp] theorem Dev.writeShutdown_sd (d : Dev) (v : Byte) : (d.writeShutdown v).sd = v := rfl
@[simp] theorem Dev.writeShutdown_gcr (d : Dev) (v : Byte) : (d.writeShutdown v).gcr = d.gcr := rfl
@[simp] theorem Dev.writeShutdown_ofr (d : Dev) (v : Byte) : (d.writeShutdown v).ofr = d.ofr := rfl
@[simp] theorem Dev.writeShutdown_pwmStaged (d : Dev) (v : Byte) : (d.writeShutdown v).pwmStaged = d.pwmStaged := rfl
@[simp] theorem Dev.writeShutdown_pwmActive (d : Dev) (v : Byte) : (d.writeShutdown v).pwmActive = d.pwmActive := rfl
@[simp] theorem Dev.writeShutdown_ledStaged (d : Dev) (v : Byte) : (d.writeShutdown v).ledStaged = d.ledStaged := rfl
@[simp] theorem Dev.writeShutdown_ledActive (d : Dev) (v : Byte) : (d.writeShutdown v).ledActive = d.ledActive := rfl

@[simp] theorem Dev.stagePwm_sd (d : Dev) (k : Fin 28) (v : Byte) : (d.stagePwm k v).sd = d.sd := rfl
@[simp] theorem Dev.stagePwm_gcr (d : Dev) (k : Fin 28) (v : Byte) : (d.stagePwm k v).gcr = d.gcr := rfl
@[simp] theorem Dev.stagePwm_ofr (d : Dev) (k : Fin 28) (v : Byte) : (d.stagePwm k v).ofr = d.ofr := rfl
@[simp] theorem Dev.stagePwm_pwmStaged (d : Dev) (k : Fin 28) (v : Byte) : (d.stagePwm k v).pwmStaged = d.pwmStaged.set k v := rfl
@[simp] theorem Dev.stagePwm_pwmActive (d : Dev) (k : Fin 28) (v : Byte) : (d.stagePwm k v).pwmActive = d.pwmActive := rfl
@[simp] theorem Dev.stagePwm_ledStaged (d : Dev) (k : Fin 28) (v : Byte) : (d.stagePwm k v).ledStaged = d.ledStaged := rfl
@[simp] theorem Dev.stagePwm_ledActive (d : Dev) (k : Fin 28) (v : Byte) : (d.stagePwm k v).ledActive = d.ledActive := rfl

@[simp] theorem Dev.stageLed_sd (d : Dev) (k : Fin 28) (v : Byte) : (d.stageLed k v).sd = d.sd := rfl
@[simp] theorem Dev.stageLed_gcr (d : Dev) (k : Fin 28) (v : Byte) : (d.stageLed k v).gcr = d.gcr := rfl
@[simp] theorem Dev.stageLed_ofr (d : Dev) (k : Fin 28) (v : Byte) : (d.stageLed k v).ofr = d.ofr := rfl
@[simp] theorem Dev.stageLed_pwmStaged (d : Dev) (k : Fin 28) (v : Byte) : (d.stageLed k v).pwmStaged = d.pwmStaged := rfl
@[simp] theorem Dev.stageLed_pwmActive (d : Dev) (k : Fin 28) (v : Byte) : (d.stageLed k v).pwmActive = d.pwmActive := rfl
@[simp] theorem Dev.stageLed_ledStaged (d : Dev) (k : Fin 28) (v : Byte) : (d.stageLed k v).ledStaged = d.ledStaged.set k v := rfl
@[simp] theorem Dev.stageLed_ledActive (d : Dev) (k : Fin 28) (v : Byte) : (d.stageLed k v).ledActive = d.ledActive := rfl

@[simp] theorem Dev.latch_sd (d : Dev) : (d.latch).sd = d.sd := rfl
@[simp] theorem Dev.latch_gcr (d : Dev) : (d.latch).gcr = d.gcr := rfl
@[simp] theorem Dev.latch_ofr (d : Dev) : (d.latch).ofr = d.ofr := rfl
@[simp] theorem Dev.latch_pwmStaged (d : Dev) : (d.latch).pwmStaged = d.pwmStaged := rfl
@[simp] theorem Dev.latch_pwmActive (d : Dev) : (d.latch).pwmActive = d.pwmStaged := rfl
@[simp] theorem Dev.latch_ledStaged (d : Dev) : (d.latch).ledStaged = d.ledStaged := rfl
@[simp] theorem Dev.latch_ledActive (d : Dev) : (d.latch).ledActive = d.ledStaged := rfl

@[simp] theorem Dev.writeGlobalctl_sd (d : Dev) (v : Byte) : (d.writeGlobalctl v).sd = d.sd := rfl
@[simp] theorem Dev.writeGlobalctl_gcr (d : Dev) (v : Byte) : (d.writeGlobalctl v).gcr = v := rfl
@[simp] theorem Dev.writeGlobalctl_ofr (d : Dev) (v : Byte) : (d.writeGlobalctl v).ofr = d.ofr := rfl
@[simp] theorem Dev.writeGlobalctl_pwmStaged (d : Dev) (v : Byte) : (d.writeGlobalctl v).pwmStaged = d.pwmStaged := rfl
@[simp] theorem Dev.writeGlobalctl_pwmActive (d : Dev) (v : Byte) : (d.writeGlobalctl v).pwmActive = d.pwmActive := rfl
@[simp] theorem Dev.writeGlobalctl_ledStaged (d : Dev) (v : Byte) : (d.writeGlobalctl v).ledStaged = d.ledStaged := rfl
@[simp] theorem Dev.writeGlobalctl_ledActive (d : Dev) (v : Byte) : (d.writeGlobalctl v).ledActive = d.ledActive := rfl

@[simp] theorem Dev.writeOutfreq_sd (d : Dev) (v : Byte) : (d.writeOutfreq v).sd = d.sd := rfl
@[simp] theorem Dev.writeOutfreq_gcr (d : Dev) (v : Byte) : (d.writeOutfreq v).gcr = d.gcr := rfl
@[simp] theorem Dev.writeOutfreq_ofr (d : Dev) (v : Byte) : (d.writeOutfreq v).ofr = v := rfl
@[simp] theorem Dev.writeOutfreq_pwmStaged (d : Dev) (v : Byte) : (d.writeOutfreq v).pwmStaged = d.pwmStaged := rfl
@[simp] theorem Dev.writeOutfreq_pwmActive (d : Dev) (v : Byte) : (d.writeOutfreq v).pwmActive = d.pwmActive := rfl
@[simp] theorem Dev.writeOutfreq_ledStaged (d : Dev) (v : Byte) : (d.writeOutfreq v).ledStaged = d.ledStaged := rfl
@[simp] theorem Dev.writeOutfreq_ledActive (d : Dev) (v : Byte) : (d.writeOutfreq v).ledActive = d.ledActive := rfl

@[simp] theorem devDefaults_sd (p : Params) : (devDefaults p).sd = 0x00#8 := rfl
@[simp] theorem devDefaults_gcr (p : Params) : (devDefaults p).gcr = gcrDefault p := rfl
@[simp] theorem devDefaults_ofr (p : Params) : (devDefaults p).ofr = ofrDefault p := rfl
@[simp] theorem devDefaults_pwmStaged (p : Params) : (devDefaults p).pwmStaged = Vector.replicate 28 0x00#8 := rfl
@[simp] theorem devDefaults_pwmActive (p : Params) : (devDefaults p).pwmActive = Vector.replicate 28 0x00#8 := rfl
@[simp] theorem devDefaults_ledStaged (p : Params) : (devDefaults p).ledStaged = Vector.replicate 28 0x00#8 := rfl
@[simp] theorem devDefaults_ledActive (p : Params) : (devDefaults p).ledActive = Vector.replicate 28 0x00#8 := rfl

/-- A state is unchanged when DEV is set to what it was. -/
@[simp] theorem State.setDev_self (s : State) : s.setDev s.dev = s := rfl

@[simp] theorem State.setDev_setDev (s : State) (d e : Dev) : (s.setDev d).setDev e = s.setDev e := rfl

end Sys2Proof.Machine
end

