-- ==== Sys2Proof/Laws/Dev.lean ====
section
/-! SUPPORT. The effects of frames on DEV, seen through its arrays, its mode and its visible settings. -/

namespace Sys2Proof.Machine

/-- Staging a PWM byte changes that entry of the staged array alone. -/
theorem Dev.stagePwm_getElem (d : Dev) (k j : Fin 28) (v : Byte) :
    (d.stagePwm k v).pwmStaged[j] = if j = k then v else d.pwmStaged[j] := by
  by_cases h : j = k
  · subst h; simp
  · have : (k : Nat) ≠ j := fun e => h (Fin.ext e.symm)
    simp [h, Vector.getElem_set_ne, this]

/-- Staging a LedControl byte changes that entry of the staged array alone. -/
theorem Dev.stageLed_getElem (d : Dev) (k j : Fin 28) (v : Byte) :
    (d.stageLed k v).ledStaged[j] = if j = k then v else d.ledStaged[j] := by
  by_cases h : j = k
  · subst h; simp
  · have : (k : Nat) ≠ j := fun e => h (Fin.ext e.symm)
    simp [h, Vector.getElem_set_ne, this]

/-- The mode depends on the Shutdown register alone (R16). -/
theorem Dev.mode_congr {d e : Dev} (h : d.sd = e.sd) : d.mode = e.mode := by
  simp only [Dev.mode, h]

/-- What a channel's enable says depends on the active LedControl bytes alone (R19). -/
theorem Dev.channelEnable_congr {d e : Dev} (h : d.ledActive = e.ledActive) (c : Fin 28) :
    d.channelEnable c = e.channelEnable c := by
  simp only [Dev.channelEnable, h]

theorem Dev.mode_shutdown {d : Dev} (h : d.sd = vShutdown) : d.mode = some .shutdown := by
  simp [Dev.mode, h]

theorem Dev.mode_normal {d : Dev} (h : d.sd = vNormal) : d.mode = some .normal := by
  simp [Dev.mode, h]

theorem Dev.channelEnable_disabled {d : Dev} {c : Fin 28} (h : d.ledActive[c] = vDisabled) :
    d.channelEnable c = some .disabled :=
  if_pos h

theorem Dev.channelEnable_enabled {d : Dev} {c : Fin 28} (h : d.ledActive[c] = vEnabled) :
    d.channelEnable c = some .enabled := by
  rw [Dev.channelEnable, h]
  rfl

theorem Dev.channelEnable_undefined {d : Dev} {c : Fin 28} (h0 : d.ledActive[c] ≠ vDisabled)
    (h1 : d.ledActive[c] ≠ vEnabled) : d.channelEnable c = none := by
  rw [Dev.channelEnable, if_neg h0, if_neg h1]

/-- What is visible depends on the Shutdown register and the active copies alone (R45). -/
theorem Dev.visible_congr {d e : Dev} (hs : d.sd = e.sd) (hp : d.pwmActive = e.pwmActive)
    (hl : d.ledActive = e.ledActive) (c : Fin 28) : d.visible c = e.visible c := by
  simp only [Dev.visible, Dev.mode_congr hs, Dev.channelEnable_congr hl, hp]

/-- In Shutdown mode a channel whose active enable is defined is off. -/
theorem Dev.visible_shutdown {d : Dev} {c : Fin 28} (h : d.sd = vShutdown)
    (hl : d.ledActive[c] = vDisabled ∨ d.ledActive[c] = vEnabled) : d.visible c = some .off := by
  rcases hl with hl | hl
  · simp only [Dev.visible, Dev.mode_shutdown h, Dev.channelEnable_disabled hl]
  · simp only [Dev.visible, Dev.mode_shutdown h, Dev.channelEnable_enabled hl]

/-- In Shutdown mode no channel is on. -/
theorem Dev.visible_shutdown_ne_on {d : Dev} (h : d.sd = vShutdown) (c : Fin 28) (v : Byte) :
    d.visible c ≠ some (.on v) := by
  cases he : d.channelEnable c <;> simp [Dev.visible, Dev.mode_shutdown h, he]

/-- A channel whose active enable is not defined shows nothing, in any mode. -/
theorem Dev.visible_undefined {d : Dev} {c : Fin 28} (h0 : d.ledActive[c] ≠ vDisabled)
    (h1 : d.ledActive[c] ≠ vEnabled) : d.visible c = none := by
  simp only [Dev.visible, Dev.channelEnable_undefined h0 h1]
  rcases d.mode with _ | _ | _ <;> rfl

/-- In Normal mode a disabled channel is off. -/
theorem Dev.visible_disabled {d : Dev} {c : Fin 28} (h : d.sd = vNormal) (hl : d.ledActive[c] = vDisabled) :
    d.visible c = some .off := by
  simp only [Dev.visible, Dev.mode_normal h, Dev.channelEnable_disabled hl]

/-- In Normal mode an enabled channel shows its active duty. -/
theorem Dev.visible_enabled {d : Dev} {c : Fin 28} (h : d.sd = vNormal) (hl : d.ledActive[c] = vEnabled) :
    d.visible c = some (.on d.pwmActive[c]) := by
  simp only [Dev.visible, Dev.mode_normal h, Dev.channelEnable_enabled hl]

/-- A latch right after a latch changes nothing (R39). -/
@[simp] theorem Dev.latch_latch (d : Dev) : d.latch.latch = d.latch := rfl

/-- Staging a PWM byte is read back at its register address, and at no other (R37). -/
theorem Dev.storedAt_stagePwm (d : Dev) (k : Fin 28) (v r : Byte) :
    (d.stagePwm k v).storedAt r = if r = BitVec.ofNat 8 (0x05 + k) then some v else d.storedAt r := by
  have hk := k.isLt
  have e : r = BitVec.ofNat 8 (0x05 + k) ↔ r.toNat = 0x05 + k := by
    constructor
    · rintro rfl; simp; omega
    · intro h; apply BitVec.eq_of_toNat_eq; simp; omega
  have h0 : r = aShutdown ↔ r.toNat = 0 := by
    constructor
    · rintro rfl; rfl
    · intro h; apply BitVec.eq_of_toNat_eq; simpa using h
  have h5 : aPwmBase.toNat = 5 := rfl
  unfold Dev.storedAt
  by_cases h : r.toNat = 0x05 + k
  · have : ¬ r = aShutdown := by rw [h0]; omega
    rw [if_neg this, dif_pos (by rw [h5]; omega), if_pos (e.mpr h)]
    simp [h]
  · rw [if_neg (c := r = BitVec.ofNat 8 (0x05 + k)) (by rw [e]; exact h)]
    split
    · rfl
    · split
      · simp only [Dev.stagePwm_pwmStaged]
        rw [Vector.getElem_set_ne]
        omega
      · rfl

/-- Staging a LedControl byte is read back at its register address, and at no other (R38). -/
theorem Dev.storedAt_stageLed (d : Dev) (k : Fin 28) (v r : Byte) :
    (d.stageLed k v).storedAt r = if r = BitVec.ofNat 8 (0x2A + k) then some v else d.storedAt r := by
  have hk := k.isLt
  have e : r = BitVec.ofNat 8 (0x2A + k) ↔ r.toNat = 0x2A + k := by
    constructor
    · rintro rfl; simp; omega
    · intro h; apply BitVec.eq_of_toNat_eq; simp; omega
  have h0 : r = aShutdown ↔ r.toNat = 0 := by
    constructor
    · rintro rfl; rfl
    · intro h; apply BitVec.eq_of_toNat_eq; simpa using h
  have h5 : aPwmBase.toNat = 5 := rfl
  have h6 : aLedctlBase.toNat = 42 := rfl
  unfold Dev.storedAt
  by_cases h : r.toNat = 0x2A + k
  · have : ¬ r = aShutdown := by rw [h0]; omega
    rw [if_neg this, dif_neg (by rw [h5]; omega), dif_pos (by rw [h6]; omega), if_pos (e.mpr h)]
    simp [h]
  · rw [if_neg (c := r = BitVec.ofNat 8 (0x2A + k)) (by rw [e]; exact h)]
    split
    · rfl
    · split
      · rfl
      · split
        · simp only [Dev.stageLed_ledStaged]
          rw [Vector.getElem_set_ne]
          omega
        · rfl

end Sys2Proof.Machine
end

