-- ==== Sys2Proof/Laws/Ops.lean ====
section
/-! SUPPORT. What each shared operation can do, said once: where it answers a next state, that state. -/

namespace Sys2Proof.Machine

theorem commitDev_next {d : Dev} {s t : State} : commitDev d s = .next t ↔ t = s.setDev d := by
  simp [commitDev, eq_comm]

theorem writeUpdate_next {v : Byte} {s t : State} :
    writeUpdate v s = .next t ↔ v = s.params.updateValue ∧ t = s.setDev s.dev.latch := by
  unfold writeUpdate
  split
  · next h => simp [commitDev_next, h]
  · next h => simp [h]

/-- The latch with `UPDATE_VALUE` (R39). -/
theorem writeUpdate_latches (s : State) :
    writeUpdate s.params.updateValue s = .next (s.setDev s.dev.latch) :=
  writeUpdate_next.mpr ⟨rfl, rfl⟩

theorem acceptWhenIdle_next {u s t : State} :
    acceptWhenIdle u s = .next t ↔ (s.seq.busy = true ∧ t = s) ∨ (s.seq.busy = false ∧ t = u) := by
  unfold acceptWhenIdle
  cases s.seq.busy <;> simp [eq_comm]

/-- An idle SEQ takes the command up. -/
theorem acceptWhenIdle_idle {u s : State} (h : s.seq.busy = false) : acceptWhenIdle u s = .next u :=
  acceptWhenIdle_next.mpr (.inr ⟨h, rfl⟩)

/-- CONSTRUCT answers a next state only while SEQ is idle, and touches SEQ and the draws alone (R95, R161). -/
theorem construct_next {a : BusAddr} {s t : State} (h : construct a s = .next t) :
    s.seq.busy = false ∧ ∃ op ch val step,
      t = { s with seq := ⟨a, false, false, op, ch, val, step⟩, draws := s.draws + 4 } := by
  unfold construct at h
  split at h
  · cases h
  · next hb => cases h; exact ⟨by simpa using hb, _, _, _, _, rfl⟩

theorem issue_next {s t : State} :
    issue s = .next t ↔ ∃ f, uop s.params s.seq.op s.seq.step s.seq.ch s.seq.val = some f ∧
      t = { s with
        seq := { s.seq with pend := true }
        bus := .carrying s.seq.address f
        trace := s.trace ++ [⟨s.seq.address, f⟩] } := by
  unfold issue
  split
  · next h => simp [h]
  · next f h => simp [h, eq_comm]

/-- RESPONSE-FAIL (R87). -/
theorem respond_fail (e : BusErr) (s : State) :
    respond (.fail e) s = .next (endCommand (.busErr e) { s with bus := .quiet }) := rfl

/-- RESPONSE-OK at the last step (R86). -/
theorem respond_ok_last {s : State} (h : s.seq.step = lastStep s.seq.op) :
    respond .ok s = .next (endCommand .ok { s with bus := .quiet }) := by
  simp [respond, h]

/-- RESPONSE-OK at an earlier step (R86). -/
theorem respond_ok_more {s : State} (h : s.seq.step ≠ lastStep s.seq.op) :
    respond .ok s =
      .next { s with bus := .quiet, seq := { s.seq with pend := false, step := s.seq.step + 1 } } := by
  simp [respond, h]

/-- SEQ always takes an answer: the command goes on, or it ends with a result (R86 to R88). -/
theorem respond_next {a : BusAnswer} {s t : State} (h : respond a s = .next t) :
    (∃ r, t = endCommand r { s with bus := .quiet }) ∨
    (s.seq.step ≠ lastStep s.seq.op ∧
      t = { s with bus := .quiet, seq := { s.seq with pend := false, step := s.seq.step + 1 } }) := by
  cases a with
  | fail e => exact .inl ⟨.busErr e, by simpa [respond_fail, eq_comm] using h⟩
  | ok =>
    by_cases hs : s.seq.step = lastStep s.seq.op
    · exact .inl ⟨.ok, by simpa [respond_ok_last hs, eq_comm] using h⟩
    · exact .inr ⟨hs, by simpa [respond_ok_more hs, eq_comm] using h⟩

/-- The default of a register is a function of the parameters alone. -/
@[simp] theorem devDefaults_mode (p : Params) : (devDefaults p).mode = some .shutdown := by
  simp [Dev.mode, devDefaults]

end Sys2Proof.Machine
end

