-- ==== Sys2Proof/Laws/Step.lean ====
section
/-! SUPPORT. What an instruction and a step can do, said once; every invariant is derived from these. -/

namespace Sys2Proof.Machine

/-- Everything an instruction can do where it answers a next state: a frame changes DEV alone; a command presented to a
busy SEQ changes nothing; to an idle SEQ it is accepted, or ends with PARAM_ERR. -/
theorem exec_next {i : Instr} {s t : State} (h : exec i s = .next t) :
    (∃ d, t = s.setDev d) ∨
    (s.seq.busy = false ∧
      ((∃ op a v n, t = (accepted op a v s).drew n ∧ (op = .setPwm → channelOk a = true) ∧
          (op = .setFrequency → v = vFreqLow ∨ v = vFreqHigh)) ∨
        ∃ c v, i = .setPwm c v ∧ channelOk c = false ∧ t = endCommand .paramErr s)) := by
  have selCodes : ∀ x : BitVec 1, selByte x = vFreqLow ∨ selByte x = vFreqHigh := by decide
  cases i
  case powerOn a b =>
    obtain ⟨-, rfl⟩ | ⟨hb, rfl⟩ := acceptWhenIdle_next.mp h
    · exact .inl ⟨_, rfl⟩
    · exact .inr ⟨hb, .inl ⟨_, _, _, _, rfl, nofun, nofun⟩⟩
  case powerOff a b =>
    obtain ⟨-, rfl⟩ | ⟨hb, rfl⟩ := acceptWhenIdle_next.mp h
    · exact .inl ⟨_, rfl⟩
    · exact .inr ⟨hb, .inl ⟨_, _, _, _, rfl, nofun, nofun⟩⟩
  case setFrequency a rsv sel =>
    obtain ⟨-, rfl⟩ | ⟨hb, rfl⟩ := acceptWhenIdle_next.mp h
    · exact .inl ⟨_, rfl⟩
    · exact .inr ⟨hb, .inl ⟨_, _, _, 0, rfl, nofun, fun _ => selCodes sel⟩⟩
  case setPwm c v =>
    obtain ⟨-, rfl⟩ | ⟨hb, rfl⟩ := acceptWhenIdle_next.mp h
    · exact .inl ⟨_, rfl⟩
    · cases hc : channelOk c
      · exact .inr ⟨hb, .inr ⟨c, v, rfl, hc, by simp⟩⟩
      · exact .inr ⟨hb, .inl ⟨.setPwm, c, v, 0, rfl, fun _ => hc, nofun⟩⟩
  case wUpdate v => exact .inl ⟨_, (writeUpdate_next.mp h).2⟩
  all_goals exact .inl ⟨_, commitDev_next.mp h⟩

/-- A step in which a word arrives runs its instruction. -/
theorem step_word {s u : State} {r : Raw} {i : Instr} (h : fetch s = .word r u) (hd : decode r = .ok i) :
    step s = exec i u := by
  simp only [step, h, hd]

/-- A step in which no word arrives is the event. -/
theorem step_event {s : State} {o : Step} (h : fetch s = .event o) : step s = o := by
  simp only [step, h]

/-- A step that answers a next state is an event or an instruction. -/
theorem step_next {s t : State} (h : step s = .next t) :
    fetch s = .event (.next t) ∨ ∃ r u i, fetch s = .word r u ∧ decode r = .ok i ∧ exec i u = .next t := by
  unfold step at h
  split at h
  · next o ho => exact .inl (by rw [ho, h])
  · next r u hf =>
    split at h
    · next i hi => exact .inr ⟨r, u, i, hf, hi, h⟩
    · cases h

/-- An idle SEQ with nothing presented waits. -/
theorem seqMove_idle {s : State} (hb : s.seq.busy = false) (hc : s.commands = []) : seqMove s = .event (.next s) := by
  simp [seqMove, hb, hc]

/-- An idle SEQ takes the next command word. -/
theorem seqMove_command {s : State} {w : CmdWord} {rest : List CmdWord} (hb : s.seq.busy = false)
    (hc : s.commands = w :: rest) : seqMove s = .word (.cmd18 w) { s with commands := rest } := by
  simp [seqMove, hb, hc]

/-- A busy SEQ with no frame outstanding issues one. -/
theorem seqMove_issue {s : State} (hb : s.seq.busy = true) (hp : s.seq.pend = false) :
    seqMove s = .event (issue s) := by
  simp [seqMove, hb, hp]

/-- A waiting SEQ takes the answer BUS has given. -/
theorem seqMove_respond {s : State} {a : BusAnswer} (hb : s.seq.busy = true) (hp : s.seq.pend = true)
    (ha : s.bus = .answered a) : seqMove s = .event (respond a s) := by
  simp [seqMove, hb, hp, ha]

/-- While its frame is on the way SEQ waits (R85). -/
theorem seqMove_wait {s : State} {d : BusAddr} {f : FrameWord} (hb : s.seq.busy = true) (hp : s.seq.pend = true)
    (hc : s.bus = .carrying d f) : seqMove s = .event (.next s) := by
  simp [seqMove, hb, hp, hc]

theorem moving_nil {s : State} (h : s.env = []) : s.moving = s := by
  rw [State.moving, h]
  exact congrArg (fun l => { s with env := l }) h.symm

theorem moving_answer {s : State} {a : BusAnswer} {rest : List EnvEvent} (h : s.env = .answer a :: rest) :
    s.moving = s := by
  rw [State.moving, h]
  exact congrArg (fun l => { s with env := l }) h.symm

theorem moving_later {s : State} {rest : List EnvEvent} (h : s.env = .later :: rest) :
    s.moving = { s with env := rest } := by
  rw [State.moving, h, afterMove]

/-- While nothing but SEQ's side is next, and there is no frame to answer, SEQ moves. -/
theorem fetch_seqMove {s : State} (h : ∀ e rest, s.env = e :: rest → e.immediate = false)
    (hw : ∀ d f, s.bus = .carrying d f → (s.seq.busy && s.seq.pend) = false) : fetch s = seqMove s.moving := by
  unfold fetch
  split
  · next he => exact absurd (h _ _ he) (by simp [EnvEvent.immediate])
  · next he => exact absurd (h _ _ he) (by simp [EnvEvent.immediate])
  · next he => exact absurd (h _ _ he) (by simp [EnvEvent.immediate])
  · next he => rw [moving_later he]
  · next he =>
    rw [moving_answer he]
    split
    · rfl
    · next d f hc => simp [hw d f hc]
    · rfl
  · next he => rw [moving_nil he]

/-- BUS answers the frame it carries for SEQ. -/
theorem fetch_answer {s : State} {a : BusAnswer} {d : BusAddr} {f : FrameWord} {rest : List EnvEvent}
    (hb : s.seq.busy = true) (hp : s.seq.pend = true) (hc : s.bus = .carrying d f)
    (he : s.env = .answer a :: rest) : fetch s = answerFrame a d f rest s := by
  simp only [fetch, he, hc, hb, hp, Bool.and_self, if_true]

/-- The outside world acts, or SEQ moves. -/
theorem fetch_env_cases (s : State) :
    (∃ d f rest, s.env = .foreign d f :: rest ∧ fetch s = deliver d f { s with env := rest }) ∨
    (∃ rest, s.env = .devPowerOn :: rest ∧
      fetch s = .event (commitDev (devDefaults s.params) { s with env := rest })) ∨
    (∃ a rest, s.env = .construct a :: rest ∧ fetch s = .event (construct a { s with env := rest })) ∨
    (∃ a d f rest, s.seq.busy = true ∧ s.seq.pend = true ∧ s.bus = .carrying d f ∧ s.env = .answer a :: rest ∧
      fetch s = answerFrame a d f rest s) ∨
    fetch s = seqMove s.moving := by
  rcases he : s.env with _ | ⟨e, rest⟩
  · exact .inr (.inr (.inr (.inr (by rw [moving_nil he]; simp only [fetch, he]))))
  · cases e with
    | foreign d f => exact .inl ⟨d, f, rest, rfl, by simp only [fetch, he]⟩
    | devPowerOn => exact .inr (.inl ⟨rest, rfl, by simp only [fetch, he]⟩)
    | construct a => exact .inr (.inr (.inl ⟨a, rest, rfl, by simp only [fetch, he]⟩))
    | later => exact .inr (.inr (.inr (.inr (by rw [moving_later he]; simp only [fetch, he]))))
    | answer a =>
      by_cases hw : ∃ d f, s.bus = .carrying d f ∧ s.seq.busy = true ∧ s.seq.pend = true
      · obtain ⟨d, f, hc, hb, hp⟩ := hw
        exact .inr (.inr (.inr (.inl ⟨a, d, f, rest, hb, hp, hc, rfl, fetch_answer hb hp hc he⟩)))
      · refine .inr (.inr (.inr (.inr (fetch_seqMove ?_ ?_))))
        · intro e rest' h
          rw [he] at h
          cases h
          rfl
        · intro d f hc
          cases hb : s.seq.busy <;> cases hp : s.seq.pend <;> first | rfl | exact absurd ⟨d, f, hc, hb, hp⟩ hw

/-- What SEQ does of its own. -/
theorem seqMove_cases (s : State) :
    (∃ w rest, s.seq.busy = false ∧ s.commands = w :: rest ∧
      seqMove s = .word (.cmd18 w) { s with commands := rest }) ∨
    (s.seq.busy = true ∧ s.seq.pend = false ∧ seqMove s = .event (issue s)) ∨
    (∃ a, s.seq.busy = true ∧ s.seq.pend = true ∧ s.bus = .answered a ∧ seqMove s = .event (respond a s)) ∨
    seqMove s = .event (.next s) := by
  cases hb : s.seq.busy
  · rcases hc : s.commands with _ | ⟨w, rest⟩
    · exact .inr (.inr (.inr (seqMove_idle hb hc)))
    · exact .inl ⟨w, rest, rfl, rfl, seqMove_command hb hc⟩
  · cases hp : s.seq.pend
    · exact .inr (.inl ⟨rfl, rfl, seqMove_issue hb hp⟩)
    · cases hc : s.bus with
      | quiet => exact .inr (.inr (.inr (by simp [seqMove, hb, hp, hc])))
      | carrying d f => exact .inr (.inr (.inr (seqMove_wait hb hp hc)))
      | answered a => exact .inr (.inr (.inl ⟨a, rfl, rfl, rfl, seqMove_respond hb hp hc⟩))

/-- The next event, by agent: everything that can happen in one step. -/
theorem fetch_cases (s : State) :
    (∃ d f rest, s.env = .foreign d f :: rest ∧ fetch s = deliver d f { s with env := rest }) ∨
    (∃ rest, s.env = .devPowerOn :: rest ∧
      fetch s = .event (commitDev (devDefaults s.params) { s with env := rest })) ∨
    (∃ a rest, s.env = .construct a :: rest ∧ fetch s = .event (construct a { s with env := rest })) ∨
    (∃ w rest, s.seq.busy = false ∧ s.commands = w :: rest ∧
      fetch s = .word (.cmd18 w) { s.moving with commands := rest }) ∨
    (s.seq.busy = true ∧ s.seq.pend = false ∧ fetch s = .event (issue s.moving)) ∨
    (∃ a, s.seq.busy = true ∧ s.seq.pend = true ∧ s.bus = .answered a ∧ fetch s = .event (respond a s.moving)) ∨
    (∃ d f rest, s.seq.busy = true ∧ s.seq.pend = true ∧ s.bus = .carrying d f ∧ s.env = .answer .ok :: rest ∧
      fetch s = deliver d f (s.gotAnswer .ok rest)) ∨
    (∃ d f e rest, s.seq.busy = true ∧ s.seq.pend = true ∧ s.bus = .carrying d f ∧
      s.env = .answer (.fail e) :: rest ∧ fetch s = .event (.next (s.gotAnswer (.fail e) rest))) ∨
    fetch s = .event (.next s.moving) := by
  rcases fetch_env_cases s with h | h | h | ⟨a, d, f, rest, hb, hp, hc, he, h⟩ | h
  · exact .inl h
  · exact .inr (.inl h)
  · exact .inr (.inr (.inl h))
  · cases a with
    | ok => exact .inr (.inr (.inr (.inr (.inr (.inr (.inl ⟨d, f, rest, hb, hp, hc, he, h⟩))))))
    | fail e => exact .inr (.inr (.inr (.inr (.inr (.inr (.inr (.inl ⟨d, f, e, rest, hb, hp, hc, he, h⟩)))))))
  · rw [h]
    rcases seqMove_cases s.moving with ⟨w, rest, hb, hc, hq⟩ | ⟨hb, hp, hq⟩ | ⟨a, hb, hp, ha, hq⟩ | hq
    · exact .inr (.inr (.inr (.inl ⟨w, rest, hb, hc, hq⟩)))
    · exact .inr (.inr (.inr (.inr (.inl ⟨hb, hp, hq⟩))))
    · exact .inr (.inr (.inr (.inr (.inr (.inl ⟨a, hb, hp, ha, hq⟩)))))
    · exact .inr (.inr (.inr (.inr (.inr (.inr (.inr (.inr hq)))))))

/-- A delivered frame either runs its instruction, at DEV's own address, or leaves the state as it is. -/
theorem deliver_next {s t u : State} {d : BusAddr} {f : FrameWord} (hf : fetch s = deliver d f u)
    (h : step s = .next t) :
    (d ≠ u.params.strap ∧ t = u) ∨
      (d = u.params.strap ∧ ∃ i, decode (.bus16 f) = .ok i ∧ exec i u = .next t) := by
  unfold deliver at hf
  split at hf
  · next hd =>
    obtain h | ⟨r, v, i, h1, h2, h3⟩ := step_next h
    · rw [hf] at h; cases h
    · rw [hf] at h1; cases h1; exact .inr ⟨hd, i, h2, h3⟩
  · next hd =>
    rw [step_event hf] at h; cases h; exact .inl ⟨hd, rfl⟩

/-- The instruction of a frame changes DEV alone. -/
theorem exec_bus16_next {f : FrameWord} {i : Instr} {s t : State} (hd : decode (.bus16 f) = .ok i)
    (h : exec i s = .next t) : ∃ d, t = s.setDev d := by
  have hi := frameInstr_encode (decode_bus16 hd)
  cases i
  case powerOn => cases hi
  case powerOff => cases hi
  case setFrequency => cases hi
  case setPwm => cases hi
  case wUpdate v => exact ⟨_, (writeUpdate_next.mp h).2⟩
  all_goals exact ⟨_, commitDev_next.mp h⟩

/-- Everything a step can do where it answers a next state. -/
theorem step_cases {s t : State} (h : step s = .next t) :
    (∃ d f rest e, s.env = .foreign d f :: rest ∧ t = State.setDev { s with env := rest } e ∧
      (d ≠ s.params.strap → e = s.dev)) ∨
    (∃ rest, s.env = .devPowerOn :: rest ∧ t = State.setDev { s with env := rest } (devDefaults s.params)) ∨
    (∃ a rest op ch val step, s.seq.busy = false ∧ s.env = .construct a :: rest ∧
      t = { s with seq := ⟨a, false, false, op, ch, val, step⟩, draws := s.draws + 4, env := rest }) ∨
    (∃ w rest, s.seq.busy = false ∧ s.commands = w :: rest ∧
      exec (decodeCommand w) { s.moving with commands := rest } = .next t) ∨
    (∃ f, s.seq.busy = true ∧ s.seq.pend = false ∧
      uop s.params s.seq.op s.seq.step s.seq.ch s.seq.val = some f ∧
      t = { s.moving with
        seq := { s.seq with pend := true }
        bus := .carrying s.seq.address f
        trace := s.trace ++ [⟨s.seq.address, f⟩] }) ∨
    (∃ a, s.seq.busy = true ∧ s.seq.pend = true ∧ s.bus = .answered a ∧ respond a s.moving = .next t) ∨
    (∃ d f rest e, s.seq.busy = true ∧ s.seq.pend = true ∧ s.bus = .carrying d f ∧
      s.env = .answer .ok :: rest ∧ t = (s.gotAnswer .ok rest).setDev e ∧ (d ≠ s.params.strap → e = s.dev) ∧
      (d = s.params.strap → ∃ i, decode (.bus16 f) = .ok i ∧ exec i (s.gotAnswer .ok rest) = .next t)) ∨
    (∃ d f e rest, s.seq.busy = true ∧ s.seq.pend = true ∧ s.bus = .carrying d f ∧
      s.env = .answer (.fail e) :: rest ∧ t = s.gotAnswer (.fail e) rest) ∨
    t = s.moving := by
  rcases fetch_cases s with ⟨d, f, rest, he, hf⟩ | ⟨rest, he, hf⟩ | ⟨a, rest, he, hf⟩ | ⟨w, rest, hb, hc, hf⟩ |
    ⟨hb, hp, hf⟩ | ⟨a, hb, hp, ha, hf⟩ | ⟨d, f, rest, hb, hp, hc, he, hf⟩ |
    ⟨d, f, e, rest, hb, hp, hc, he, hf⟩ | hf
  · obtain ⟨hd, rfl⟩ | ⟨hd, i, hi, hx⟩ := deliver_next hf h
    · exact .inl ⟨d, f, rest, s.dev, he, rfl, fun _ => rfl⟩
    · obtain ⟨e, rfl⟩ := exec_bus16_next hi hx
      exact .inl ⟨d, f, rest, e, he, rfl, fun hn => absurd hd hn⟩
  · rw [step_event hf] at h
    exact .inr (.inl ⟨rest, he, commitDev_next.mp h⟩)
  · rw [step_event hf] at h
    obtain ⟨hb, op, ch, val, st, rfl⟩ := construct_next h
    exact .inr (.inr (.inl ⟨a, rest, op, ch, val, st, hb, he, rfl⟩))
  · rw [step_word hf rfl] at h
    exact .inr (.inr (.inr (.inl ⟨w, rest, hb, hc, h⟩)))
  · rw [step_event hf] at h
    obtain ⟨f, hu, rfl⟩ := issue_next.mp h
    exact .inr (.inr (.inr (.inr (.inl ⟨f, hb, hp, hu, rfl⟩))))
  · rw [step_event hf] at h
    exact .inr (.inr (.inr (.inr (.inr (.inl ⟨a, hb, hp, ha, h⟩)))))
  · refine .inr (.inr (.inr (.inr (.inr (.inr (.inl ?_))))))
    obtain ⟨hd, rfl⟩ | ⟨hd, i, hi, hx⟩ := deliver_next hf h
    · exact ⟨d, f, rest, s.dev, hb, hp, hc, he, rfl, fun _ => rfl, fun h => absurd h hd⟩
    · obtain ⟨e, rfl⟩ := exec_bus16_next hi hx
      exact ⟨d, f, rest, e, hb, hp, hc, he, rfl, fun hn => absurd hd hn, fun _ => ⟨i, hi, hx⟩⟩
  · rw [step_event hf] at h
    cases h
    exact .inr (.inr (.inr (.inr (.inr (.inr (.inr (.inl ⟨d, f, e, rest, hb, hp, hc, he, rfl⟩)))))))
  · rw [step_event hf] at h
    cases h
    exact .inr (.inr (.inr (.inr (.inr (.inr (.inr (.inr rfl)))))))

end Sys2Proof.Machine
end

