-- ==== Sys2Proof/Laws/Engine.lean ====
section
/-! SUPPORT. One bus transaction as three events, and a command as a sequence of transactions: what the proofs about
whole commands chain together. -/

namespace Sys2Proof.Machine

@[simp] theorem runSteps_zero (s : State) : runSteps 0 s = .next s := rfl

/-- The first step of a run. -/
theorem runSteps_succ {n : Nat} {s t : State} (h : step s = .next t) : runSteps (n + 1) s = runSteps n t := by
  simp only [runSteps, h]

/-- A run continued. -/
theorem runSteps_add {m n : Nat} {s t : State} (h : runSteps m s = .next t) : runSteps (m + n) s = runSteps n t := by
  induction m generalizing s with
  | zero => cases h; rw [Nat.zero_add]
  | succ m ih =>
    simp only [runSteps] at h
    split at h
    · next u hu => rw [Nat.succ_add, runSteps_succ hu, ih h]
    · cases h
    · cases h

/-- A state that steps to itself stays for ever. -/
theorem runSteps_fixed {s : State} (h : step s = .next s) (n : Nat) : runSteps n s = .next s := by
  induction n with
  | zero => rfl
  | succ n ih => rw [runSteps_succ h, ih]

/-- An answer that heads `env` waits. -/
theorem calm_answer {env rest : List EnvEvent} {a : BusAnswer} (h : env = .answer a :: rest) : Calm env := by
  rintro e r rfl
  cases h
  rfl

theorem calm_onlyAnswers {env : List EnvEvent} (h : OnlyAnswers env) : Calm env := by
  rintro e rest rfl
  obtain ⟨a, rfl⟩ := h e (List.mem_cons_self ..)
  rfl

/-- Where the outside world has nothing but answers there is no `later` to take away. -/
theorem moving_onlyAnswers {s : State} (h : OnlyAnswers s.env) : s.moving = s := by
  cases he : s.env with
  | nil => exact moving_nil he
  | cons e rest =>
    obtain ⟨a, rfl⟩ := h e (by rw [he]; exact List.mem_cons_self ..)
    exact moving_answer he

theorem answerEvents_only (as : List BusAnswer) : OnlyAnswers (answerEvents as) := by
  intro e he
  obtain ⟨a, -, rfl⟩ := List.mem_map.mp he
  exact ⟨a, rfl⟩

theorem answerEvents_append (as bs : List BusAnswer) : answerEvents (as ++ bs) = answerEvents as ++ answerEvents bs :=
  List.map_append

@[simp] theorem answerEvents_cons (a : BusAnswer) (as : List BusAnswer) :
    answerEvents (a :: as) = .answer a :: answerEvents as := rfl

/-- A frame, delivered to DEV in state `d`, leaves it in state `e`, whatever the rest of the machine holds. -/
def Delivers (p : Params) (f : FrameWord) (d e : Dev) : Prop :=
  ∃ i, decode (.bus16 f) = .ok i ∧ ∀ u : State, u.params = p → u.dev = d → exec i u = .next (u.setDev e)

/-- DEV after a frame of SEQ: as the frame leaves it where SEQ's address is DEV's, unchanged where it is not. -/
def SeqDelivers (s : State) (f : FrameWord) (e : Dev) : Prop :=
  (s.seq.address = s.params.strap ∧ Delivers s.params f s.dev e) ∨
    (s.seq.address ≠ s.params.strap ∧ e = s.dev)

/-- The state after `f` has been issued (R84). -/
def afterIssue (s : State) (f : FrameWord) : State :=
  { s with
    seq := { s.seq with pend := true }
    bus := .carrying s.seq.address f
    trace := s.trace ++ [⟨s.seq.address, f⟩] }

/-- ISSUE as a step (R84). -/
theorem step_issue {s : State} {f : FrameWord} (hb : s.seq.busy = true) (hp : s.seq.pend = false)
    (hx : Calm s.env) (hu : uop s.params s.seq.op s.seq.step s.seq.ch s.seq.val = some f) :
    step s = .next (afterIssue s.moving f) := by
  rw [step_event (by rw [fetch_seqMove hx fun _ _ _ => by simp [hp], seqMove_issue (s := s.moving) hb hp])]
  exact issue_next.mpr ⟨f, hu, rfl⟩

/-- SEQ takes an answer, as a step (R86, R87). -/
theorem step_respond {s : State} {a : BusAnswer} (hb : s.seq.busy = true) (hp : s.seq.pend = true)
    (hx : Calm s.env) (ha : s.bus = .answered a) : step s = respond a s.moving := by
  rw [step_event (by rw [fetch_seqMove hx fun _ _ hc => by simp [ha] at hc, seqMove_respond (s := s.moving) hb hp ha])]

/-- BUS answers with a failure, as a step (D10). -/
theorem step_failed {s : State} {d : BusAddr} {f : FrameWord} {e : BusErr} {rest : List EnvEvent}
    (hb : s.seq.busy = true) (hp : s.seq.pend = true) (hc : s.bus = .carrying d f)
    (he : s.env = .answer (.fail e) :: rest) : step s = .next (s.gotAnswer (.fail e) rest) := by
  apply step_event
  rw [fetch_answer hb hp hc he, answerFrame]

/-- BUS delivers SEQ's frame and answers `ok`, as a step (R32). -/
theorem step_delivered {s : State} {f : FrameWord} {rest : List EnvEvent} {e : Dev}
    (hb : s.seq.busy = true) (hp : s.seq.pend = true) (hc : s.bus = .carrying s.seq.address f)
    (he : s.env = .answer .ok :: rest) (hd : SeqDelivers s f e) :
    step s = .next ((s.gotAnswer .ok rest).setDev e) := by
  have hf : fetch s = deliver s.seq.address f (s.gotAnswer .ok rest) := by
    rw [fetch_answer hb hp hc he, answerFrame]
  rcases hd with ⟨ha, i, hi, hx⟩ | ⟨ha, rfl⟩
  · rw [step_word (by rw [hf, deliver, if_pos (by simpa using ha)]) hi]
    exact hx _ rfl rfl
  · rw [step_event (by rw [hf, deliver, if_neg (by simpa using ha)])]
    rfl

/-- The state after `f` has been issued and delivered, before SEQ takes the answer. -/
def afterDelivery (s : State) (f : FrameWord) (e : Dev) (rest : List EnvEvent) : State :=
  { s with
    seq := { s.seq with pend := true }
    bus := .answered .ok
    trace := s.trace ++ [⟨s.seq.address, f⟩]
    env := rest
    answers := s.answers ++ [.ok]
    dev := e }

/-- ISSUE, delivery and response: one transaction that succeeds. -/
theorem transaction_ok {s : State} {f : FrameWord} {e : Dev} {rest : List EnvEvent}
    (hb : s.seq.busy = true) (hp : s.seq.pend = false)
    (hu : uop s.params s.seq.op s.seq.step s.seq.ch s.seq.val = some f)
    (he : s.env = .answer .ok :: rest) (hr : Calm rest) (hd : SeqDelivers s f e) :
    runSteps 3 s = respond .ok (afterDelivery s f e (afterMove rest)) := by
  have h1 := step_issue hb hp (calm_answer he) hu
  rw [moving_answer he] at h1
  rw [runSteps_succ h1]
  refine (runSteps_succ (n := 1)
    (step_delivered (s := afterIssue s f) (e := e) (rest := rest) hb rfl rfl he hd)).trans ?_
  have : step (afterDelivery s f e rest) = respond .ok (afterDelivery s f e (afterMove rest)) :=
    step_respond (s := afterDelivery s f e rest) hb rfl hr rfl
  cases hc : respond .ok (afterDelivery s f e (afterMove rest)) with
  | next t => rw [hc] at this; exact runSteps_succ (n := 0) this
  | fault r => simp only [respond] at hc; split at hc <;> cases hc
  | refused r => simp only [respond] at hc; split at hc <;> cases hc

/-- ISSUE, failure and response: one transaction that fails ends the command with BUS's error. -/
theorem transaction_fail {s : State} {f : FrameWord} {x : BusErr} {rest : List EnvEvent}
    (hb : s.seq.busy = true) (hp : s.seq.pend = false)
    (hu : uop s.params s.seq.op s.seq.step s.seq.ch s.seq.val = some f)
    (he : s.env = .answer (.fail x) :: rest) (hr : Calm rest) :
    runSteps 3 s = .next { s with
      seq := { s.seq with busy := false, pend := false }
      bus := .quiet
      trace := s.trace ++ [⟨s.seq.address, f⟩]
      env := afterMove rest
      answers := s.answers ++ [.fail x]
      results := s.results ++ [.busErr x] } := by
  have h1 := step_issue hb hp (calm_answer he) hu
  rw [moving_answer he] at h1
  rw [runSteps_succ h1]
  refine (runSteps_succ (n := 1) (step_failed (s := afterIssue s f) (rest := rest) hb rfl rfl he)).trans ?_
  exact runSteps_succ (n := 0) (step_respond (s := (afterIssue s f).gotAnswer (.fail x) rest) hb rfl hr rfl)

/-- `n` transactions that succeed before the last step: the step counter is up by `n`, `n` frames are issued. `F` and `D`
give the frame of each step and DEV before it. -/
theorem transactions_ok {F : Nat → FrameWord} {D : Nat → Dev} (n : Nat) :
    ∀ {s : State} {m : Nat} {a : BusAnswer} {rest : List EnvEvent}, s.seq.busy = true → s.seq.pend = false → s.bus = .quiet →
      s.seq.step = BitVec.ofNat 6 m → m + n ≤ (lastStep s.seq.op).toNat → s.dev = D m →
      (∀ j, m ≤ j → j < m + n →
        uop s.params s.seq.op (BitVec.ofNat 6 j) s.seq.ch s.seq.val = some (F j) ∧
        SeqDelivers { s with dev := D j } (F j) (D (j + 1))) →
      s.env = answerEvents (List.replicate n .ok) ++ .answer a :: rest →
      runSteps (3 * n) s = .next { s with
        seq := { s.seq with step := BitVec.ofNat 6 (m + n) }
        dev := D (m + n)
        trace := s.trace ++ (List.range' m n).map (fun j => ⟨s.seq.address, F j⟩)
        env := .answer a :: rest
        answers := s.answers ++ List.replicate n .ok } := by
  induction n with
  | zero =>
    intro s m a rest hb hp hq hs _ hD _ he
    simp only [List.replicate_zero, answerEvents, List.map_nil, List.nil_append] at he
    simp [← hs, ← hD, ← he]
  | succ n ih =>
    intro s m a rest hb hp hq hs hl hD hF he
    obtain ⟨hu, hd⟩ := hF m (Nat.le_refl m) (by omega)
    have hlt : (lastStep s.seq.op).toNat < 2 ^ 6 := (lastStep s.seq.op).isLt
    have hne : s.seq.step ≠ lastStep s.seq.op := by
      intro h
      have := congrArg BitVec.toNat (hs.symm.trans h)
      rw [BitVec.toNat_ofNat, Nat.mod_eq_of_lt (by omega)] at this
      omega
    have hc : afterMove (answerEvents (List.replicate n .ok) ++ .answer a :: rest) =
        answerEvents (List.replicate n .ok) ++ .answer a :: rest := by cases n <;> rfl
    have h1 := transaction_ok (s := s) (f := F m) (e := D (m + 1))
      (rest := answerEvents (List.replicate n .ok) ++ .answer a :: rest) hb hp
      (by rw [hs]; exact hu) (by rw [he]; rfl) (by cases n <;> exact calm_answer rfl) (by rw [← hD] at hd; exact hd)
    rw [hc, respond_ok_more (s := afterDelivery s (F m) (D (m + 1)) _) hne] at h1
    rw [show 3 * (n + 1) = 3 + 3 * n by omega, runSteps_add h1]
    have hstep : s.seq.step + 1 = BitVec.ofNat 6 (m + 1) := by rw [hs, BitVec.ofNat_add]; rfl
    refine (ih (m := m + 1) (a := a) (rest := rest)
      (s := { afterDelivery s (F m) (D (m + 1)) (answerEvents (List.replicate n .ok) ++ .answer a :: rest) with
        bus := .quiet, seq := { s.seq with pend := false, step := s.seq.step + 1 } }) hb rfl rfl hstep
      (by simpa only [afterDelivery] using (by omega : m + 1 + n ≤ (lastStep s.seq.op).toNat)) rfl
      (fun j h1 h2 => hF j (by omega) (by omega)) rfl).trans ?_
    simp only [afterDelivery, List.range'_succ, List.map_cons, List.append_assoc, List.singleton_append,
      List.replicate_succ, Nat.add_assoc, Nat.add_comm 1 n, ← hp, ← hq]

/-- What a command in progress at step 0 has to satisfy for its frames to be `F 0`, `F 1`, … and DEV to go through `D 0`,
`D 1`, …, up to its last step. -/
def CommandFrames (s : State) (F : Nat → FrameWord) (D : Nat → Dev) : Prop :=
  s.seq.busy = true ∧ s.seq.pend = false ∧ s.bus = .quiet ∧ s.seq.step = 0#6 ∧ s.dev = D 0 ∧
  ∀ j, j ≤ (lastStep s.seq.op).toNat →
    uop s.params s.seq.op (BitVec.ofNat 6 j) s.seq.ch s.seq.val = some (F j) ∧
    SeqDelivers { s with dev := D j } (F j) (D (j + 1))

/-- The state before frame `j` of a command that began in state `s`; `env` is what the outside world still does. -/
def commandAt (s : State) (F : Nat → FrameWord) (D : Nat → Dev) (j : Nat) (env : List EnvEvent) : State :=
  { s with
    seq := { s.seq with step := BitVec.ofNat 6 j }
    dev := D j
    trace := s.trace ++ (List.range j).map (fun i => ⟨s.seq.address, F i⟩)
    env := env
    answers := s.answers ++ List.replicate j .ok }

/-- The state before frame `j` of a command all of whose frames so far were answered `ok`. -/
theorem command_reaches {s : State} {F : Nat → FrameWord} {D : Nat → Dev} {j : Nat} {a : BusAnswer}
    {rest : List EnvEvent} (h : CommandFrames s F D) (hj : j ≤ (lastStep s.seq.op).toNat)
    (he : s.env = answerEvents (List.replicate j .ok) ++ .answer a :: rest) :
    runSteps (3 * j) s = .next (commandAt s F D j (.answer a :: rest)) := by
  obtain ⟨hb, hp, hq, hs, hD, hF⟩ := h
  have := transactions_ok (F := F) (D := D) (m := 0) (a := a) (rest := rest) j hb hp hq hs (by omega) hD
    (fun i _ hi => hF i (by omega)) he
  simpa only [commandAt, Nat.zero_add, List.range_eq_range'] using this

/-- A command all of whose frames are answered `ok` issues them all and ends with OK (R86, R88). -/
theorem command_ok {s : State} {F : Nat → FrameWord} {D : Nat → Dev} {n : Nat} {rest : List EnvEvent}
    (h : CommandFrames s F D) (hn : n = (lastStep s.seq.op).toNat + 1) (hr : Calm rest)
    (he : s.env = answerEvents (List.replicate n .ok) ++ rest) :
    runSteps (3 * n) s = .next { s with
      seq := { s.seq with step := lastStep s.seq.op, busy := false, pend := false }
      bus := .quiet
      dev := D n
      trace := s.trace ++ (List.range n).map (fun i => ⟨s.seq.address, F i⟩)
      env := afterMove rest
      answers := s.answers ++ List.replicate n .ok
      results := s.results ++ [.ok] } := by
  obtain ⟨L, hL⟩ : ∃ L, L = (lastStep s.seq.op).toNat := ⟨_, rfl⟩
  obtain rfl : n = L + 1 := by omega
  have hs := command_reaches (j := L) (a := .ok) (rest := rest) h (by omega)
    (by rw [he, List.replicate_succ', answerEvents_append, List.append_assoc]; rfl)
  have hlast : BitVec.ofNat 6 L = lastStep s.seq.op := by rw [hL, BitVec.ofNat_toNat]; simp
  obtain ⟨hb, hp, -, -, -, hF⟩ := h
  obtain ⟨hu, hd⟩ := hF L (by omega)
  rw [show 3 * (L + 1) = 3 * L + 3 by omega, runSteps_add hs]
  refine (transaction_ok (s := commandAt s F D L (.answer .ok :: rest)) (f := F L) (e := D (L + 1)) (rest := rest) hb hp hu
    rfl hr hd).trans ?_
  refine (respond_ok_last hlast).trans ?_
  rw [← hlast, List.range_succ, List.map_append, ← List.append_assoc, List.replicate_succ', ← List.append_assoc]
  rfl

/-- A command whose frame `j` fails issues the frames up to it and ends with BUS's error; DEV is as frame `j` found it
(R87). -/
theorem command_fail {s : State} {F : Nat → FrameWord} {D : Nat → Dev} {j : Nat} {e : BusErr} {rest : List EnvEvent}
    (h : CommandFrames s F D) (hj : j ≤ (lastStep s.seq.op).toNat) (hr : Calm rest)
    (he : s.env = answerEvents (List.replicate j .ok ++ [.fail e]) ++ rest) :
    runSteps (3 * (j + 1)) s = .next { s with
      seq := { s.seq with step := BitVec.ofNat 6 j, busy := false, pend := false }
      bus := .quiet
      dev := D j
      trace := s.trace ++ (List.range (j + 1)).map (fun i => ⟨s.seq.address, F i⟩)
      env := afterMove rest
      answers := s.answers ++ List.replicate j .ok ++ [.fail e]
      results := s.results ++ [.busErr e] } := by
  have hs := command_reaches (a := .fail e) (rest := rest) h hj
    (by rw [he, answerEvents_append, List.append_assoc]; rfl)
  obtain ⟨hb, hp, -, -, -, hF⟩ := h
  obtain ⟨hu, -⟩ := hF j hj
  rw [show 3 * (j + 1) = 3 * j + 3 by omega, runSteps_add hs]
  refine (transaction_fail (s := commandAt s F D j (.answer (.fail e) :: rest)) (f := F j) (x := e) (rest := rest) hb hp hu
    rfl hr).trans ?_
  rw [List.range_succ, List.map_append, ← List.append_assoc]
  rfl

/-- The LedControl register of a step, without the borrow (R65). -/
theorem ledctlReg_eq {n : MicroStep} (h1 : 2 ≤ n.toNat) (h2 : n.toNat ≤ 29) :
    ledctlReg n = BitVec.ofNat 8 (0x2A + (n.toNat - 2)) := by
  apply BitVec.eq_of_toNat_eq
  simp [ledctlReg, BitVec.toNat_sub, BitVec.toNat_setWidth]
  omega

/-- The PWM register of a channel in range, without the borrow (R65). -/
theorem pwmReg_eq {c : Byte} (h1 : 1 ≤ c.toNat) (h2 : c.toNat ≤ 28) :
    pwmReg c = BitVec.ofNat 8 (0x05 + (c.toNat - 1)) := by
  apply BitVec.eq_of_toNat_eq
  simp [pwmReg, BitVec.toNat_sub]
  omega

/-- The microprogram has a row for every step up to the last (R81, R82). -/
theorem uop_defined {p : Params} {q : Seq} (h : q.step ≤ lastStep q.op) :
    ∃ f, uop p q.op q.step q.ch q.val = some f := by
  have hn := BitVec.le_def.mp h
  cases hq : q.op
  case powerOn =>
    have hl : q.step.toNat ≤ 31 := by rw [hq] at hn; exact hn
    simp only [uop]
    repeat' split
    all_goals first | exact ⟨_, rfl⟩ | omega
  case powerOff =>
    have hl : q.step.toNat ≤ 0 := by rw [hq] at hn; exact hn
    exact ⟨_, if_pos (by omega)⟩
  case setFrequency =>
    have hl : q.step.toNat ≤ 0 := by rw [hq] at hn; exact hn
    exact ⟨_, if_pos (by omega)⟩
  case setPwm =>
    have hl : q.step.toNat ≤ 1 := by rw [hq] at hn; exact hn
    simp only [uop]
    repeat' split
    all_goals first | exact ⟨_, rfl⟩ | omega

/-- A mapped frame whose instruction DEV takes, delivered. -/
theorem delivers_of {p : Params} {reg v : Byte} {i : Instr} {d e : Dev} (hi : frameInstr reg v = some i)
    (hx : ∀ u : State, u.params = p → u.dev = d → exec i u = .next (u.setDev e)) :
    Delivers p (frameWord reg v) d e :=
  ⟨i, by simp only [decode, decodeFrame_frameWord, hi], hx⟩

/-- A PWM frame, delivered (R37). -/
theorem delivers_pwm (p : Params) (k : Fin 28) (v : Byte) (d : Dev) :
    Delivers p (frameWord (BitVec.ofNat 8 (0x05 + k)) v) d (d.stagePwm k v) := by
  fin_cases k <;> exact delivers_of rfl fun u _ hd => by subst hd; rfl

/-- A LedControl frame, delivered (R38). -/
theorem delivers_led (p : Params) (k : Fin 28) (v : Byte) (d : Dev) :
    Delivers p (frameWord (BitVec.ofNat 8 (0x2A + k)) v) d (d.stageLed k v) := by
  fin_cases k <;> exact delivers_of rfl fun u _ hd => by subst hd; rfl

/-- An Update frame with `UPDATE_VALUE`, delivered (R39). -/
theorem delivers_update (p : Params) (d : Dev) : Delivers p (frameWord 0x25 p.updateValue) d d.latch :=
  delivers_of (i := .wUpdate p.updateValue) rfl fun u hp hd => by subst hp hd; exact writeUpdate_latches u

/-- A Shutdown frame, delivered (R36). -/
theorem delivers_shutdown (p : Params) (v : Byte) (d : Dev) :
    Delivers p (frameWord 0x00 v) d (d.writeShutdown v) :=
  delivers_of (i := .wShutdown v) rfl fun u _ hd => by subst hd; rfl

/-- A GlobalControl frame, delivered (R40). -/
theorem delivers_globalctl (p : Params) (v : Byte) (d : Dev) :
    Delivers p (frameWord 0x4A v) d (d.writeGlobalctl v) :=
  delivers_of (i := .wGlobalctl v) rfl fun u _ hd => by subst hd; rfl

/-- An OutputFrequency frame, delivered (R41). -/
theorem delivers_outfreq (p : Params) (v : Byte) (d : Dev) :
    Delivers p (frameWord 0x4B v) d (d.writeOutfreq v) :=
  delivers_of (i := .wOutfreq v) rfl fun u _ hd => by subst hd; rfl

/-- A Reset frame, delivered (R42). -/
theorem delivers_reset (p : Params) (v : Byte) (d : Dev) : Delivers p (frameWord 0x4F v) d (devDefaults p) :=
  delivers_of (i := .wReset v) rfl fun u hp _ => by subst hp; rfl

/-- DEV has a meaning for every frame of the microprogram whose operands are in range. -/
theorem uop_delivers {p : Params} {q : Seq} {f : FrameWord} (ho : OperandsOk q)
    (hu : uop p q.op q.step q.ch q.val = some f) (d : Dev) : ∃ e, Delivers p f d e := by
  obtain ⟨-, hc, -⟩ := ho
  cases hq : q.op <;> rw [hq] at hu <;> simp only [uop] at hu
  case powerOn =>
    split at hu
    · cases hu; exact ⟨_, delivers_reset ..⟩
    · split at hu
      · cases hu; exact ⟨_, delivers_shutdown ..⟩
      · split at hu
        · next h0 h1 h2 =>
          cases hu
          rw [ledctlReg_eq (by omega) h2]
          exact ⟨_, delivers_led p ⟨q.step.toNat - 2, by omega⟩ _ d⟩
        · split at hu
          · cases hu; exact ⟨_, delivers_update ..⟩
          · split at hu
            · cases hu; exact ⟨_, delivers_globalctl ..⟩
            · cases hu
  case powerOff =>
    split at hu
    · cases hu; exact ⟨_, delivers_shutdown ..⟩
    · cases hu
  case setFrequency =>
    split at hu
    · cases hu; exact ⟨_, delivers_outfreq ..⟩
    · cases hu
  case setPwm =>
    have hk := hc hq
    simp only [channelOk, Bool.and_eq_true, decide_eq_true_eq] at hk
    split at hu
    · cases hu
      rw [pwmReg_eq hk.1 hk.2]
      exact ⟨_, delivers_pwm p ⟨q.ch.toNat - 1, by omega⟩ _ d⟩
    · split at hu
      · cases hu; exact ⟨_, delivers_update ..⟩
      · cases hu

end Sys2Proof.Machine
end

