-- ==== Sys2Proof/Laws/PerInstr.lean ====
section
/-! SUPPORT. Facts about every instruction as syntax, one lemma per constructor. `TableRow`: the word of an instruction
has the width of its row in spec/opcode_table.json and, under the row's mask, the row's match bits. -/

namespace Sys2Proof.Laws.TableRow

def Statement (i : Instr) : Prop :=
  (encode i).width = (tableEntry i).width ∧
  (encode i).toNat &&& (tableEntry i).mask = (tableEntry i).matchBits

theorem powerOn (a b : Byte) : Statement (.powerOn a b) :=
  ⟨rfl, command_masked 0b00#2 a b⟩

theorem powerOff (a b : Byte) : Statement (.powerOff a b) :=
  ⟨rfl, command_masked 0b01#2 a b⟩

theorem setFrequency (a : Byte) (rsv : BitVec 7) (sel : BitVec 1) : Statement (.setFrequency a rsv sel) :=
  ⟨rfl, command_masked 0b10#2 a (rsv ++ sel)⟩

theorem setPwm (channel value : Byte) : Statement (.setPwm channel value) :=
  ⟨rfl, command_masked 0b11#2 channel value⟩

theorem wShutdown (v : Byte) : Statement (.wShutdown v) :=
  ⟨rfl, frame_masked 0x00 v⟩

theorem wPwm1 (v : Byte) : Statement (.wPwm1 v) :=
  ⟨rfl, frame_masked 0x05 v⟩

theorem wPwm2 (v : Byte) : Statement (.wPwm2 v) :=
  ⟨rfl, frame_masked 0x06 v⟩

theorem wPwm3 (v : Byte) : Statement (.wPwm3 v) :=
  ⟨rfl, frame_masked 0x07 v⟩

theorem wPwm4 (v : Byte) : Statement (.wPwm4 v) :=
  ⟨rfl, frame_masked 0x08 v⟩

theorem wPwm5 (v : Byte) : Statement (.wPwm5 v) :=
  ⟨rfl, frame_masked 0x09 v⟩

theorem wPwm6 (v : Byte) : Statement (.wPwm6 v) :=
  ⟨rfl, frame_masked 0x0A v⟩

theorem wPwm7 (v : Byte) : Statement (.wPwm7 v) :=
  ⟨rfl, frame_masked 0x0B v⟩

theorem wPwm8 (v : Byte) : Statement (.wPwm8 v) :=
  ⟨rfl, frame_masked 0x0C v⟩

theorem wPwm9 (v : Byte) : Statement (.wPwm9 v) :=
  ⟨rfl, frame_masked 0x0D v⟩

theorem wPwm10 (v : Byte) : Statement (.wPwm10 v) :=
  ⟨rfl, frame_masked 0x0E v⟩

theorem wPwm11 (v : Byte) : Statement (.wPwm11 v) :=
  ⟨rfl, frame_masked 0x0F v⟩

theorem wPwm12 (v : Byte) : Statement (.wPwm12 v) :=
  ⟨rfl, frame_masked 0x10 v⟩

theorem wPwm13 (v : Byte) : Statement (.wPwm13 v) :=
  ⟨rfl, frame_masked 0x11 v⟩

theorem wPwm14 (v : Byte) : Statement (.wPwm14 v) :=
  ⟨rfl, frame_masked 0x12 v⟩

theorem wPwm15 (v : Byte) : Statement (.wPwm15 v) :=
  ⟨rfl, frame_masked 0x13 v⟩

theorem wPwm16 (v : Byte) : Statement (.wPwm16 v) :=
  ⟨rfl, frame_masked 0x14 v⟩

theorem wPwm17 (v : Byte) : Statement (.wPwm17 v) :=
  ⟨rfl, frame_masked 0x15 v⟩

theorem wPwm18 (v : Byte) : Statement (.wPwm18 v) :=
  ⟨rfl, frame_masked 0x16 v⟩

theorem wPwm19 (v : Byte) : Statement (.wPwm19 v) :=
  ⟨rfl, frame_masked 0x17 v⟩

theorem wPwm20 (v : Byte) : Statement (.wPwm20 v) :=
  ⟨rfl, frame_masked 0x18 v⟩

theorem wPwm21 (v : Byte) : Statement (.wPwm21 v) :=
  ⟨rfl, frame_masked 0x19 v⟩

theorem wPwm22 (v : Byte) : Statement (.wPwm22 v) :=
  ⟨rfl, frame_masked 0x1A v⟩

theorem wPwm23 (v : Byte) : Statement (.wPwm23 v) :=
  ⟨rfl, frame_masked 0x1B v⟩

theorem wPwm24 (v : Byte) : Statement (.wPwm24 v) :=
  ⟨rfl, frame_masked 0x1C v⟩

theorem wPwm25 (v : Byte) : Statement (.wPwm25 v) :=
  ⟨rfl, frame_masked 0x1D v⟩

theorem wPwm26 (v : Byte) : Statement (.wPwm26 v) :=
  ⟨rfl, frame_masked 0x1E v⟩

theorem wPwm27 (v : Byte) : Statement (.wPwm27 v) :=
  ⟨rfl, frame_masked 0x1F v⟩

theorem wPwm28 (v : Byte) : Statement (.wPwm28 v) :=
  ⟨rfl, frame_masked 0x20 v⟩

theorem wUpdate (v : Byte) : Statement (.wUpdate v) :=
  ⟨rfl, frame_masked 0x25 v⟩

theorem wLedctl1 (v : Byte) : Statement (.wLedctl1 v) :=
  ⟨rfl, frame_masked 0x2A v⟩

theorem wLedctl2 (v : Byte) : Statement (.wLedctl2 v) :=
  ⟨rfl, frame_masked 0x2B v⟩

theorem wLedctl3 (v : Byte) : Statement (.wLedctl3 v) :=
  ⟨rfl, frame_masked 0x2C v⟩

theorem wLedctl4 (v : Byte) : Statement (.wLedctl4 v) :=
  ⟨rfl, frame_masked 0x2D v⟩

theorem wLedctl5 (v : Byte) : Statement (.wLedctl5 v) :=
  ⟨rfl, frame_masked 0x2E v⟩

theorem wLedctl6 (v : Byte) : Statement (.wLedctl6 v) :=
  ⟨rfl, frame_masked 0x2F v⟩

theorem wLedctl7 (v : Byte) : Statement (.wLedctl7 v) :=
  ⟨rfl, frame_masked 0x30 v⟩

theorem wLedctl8 (v : Byte) : Statement (.wLedctl8 v) :=
  ⟨rfl, frame_masked 0x31 v⟩

theorem wLedctl9 (v : Byte) : Statement (.wLedctl9 v) :=
  ⟨rfl, frame_masked 0x32 v⟩

theorem wLedctl10 (v : Byte) : Statement (.wLedctl10 v) :=
  ⟨rfl, frame_masked 0x33 v⟩

theorem wLedctl11 (v : Byte) : Statement (.wLedctl11 v) :=
  ⟨rfl, frame_masked 0x34 v⟩

theorem wLedctl12 (v : Byte) : Statement (.wLedctl12 v) :=
  ⟨rfl, frame_masked 0x35 v⟩

theorem wLedctl13 (v : Byte) : Statement (.wLedctl13 v) :=
  ⟨rfl, frame_masked 0x36 v⟩

theorem wLedctl14 (v : Byte) : Statement (.wLedctl14 v) :=
  ⟨rfl, frame_masked 0x37 v⟩

theorem wLedctl15 (v : Byte) : Statement (.wLedctl15 v) :=
  ⟨rfl, frame_masked 0x38 v⟩

theorem wLedctl16 (v : Byte) : Statement (.wLedctl16 v) :=
  ⟨rfl, frame_masked 0x39 v⟩

theorem wLedctl17 (v : Byte) : Statement (.wLedctl17 v) :=
  ⟨rfl, frame_masked 0x3A v⟩

theorem wLedctl18 (v : Byte) : Statement (.wLedctl18 v) :=
  ⟨rfl, frame_masked 0x3B v⟩

theorem wLedctl19 (v : Byte) : Statement (.wLedctl19 v) :=
  ⟨rfl, frame_masked 0x3C v⟩

theorem wLedctl20 (v : Byte) : Statement (.wLedctl20 v) :=
  ⟨rfl, frame_masked 0x3D v⟩

theorem wLedctl21 (v : Byte) : Statement (.wLedctl21 v) :=
  ⟨rfl, frame_masked 0x3E v⟩

theorem wLedctl22 (v : Byte) : Statement (.wLedctl22 v) :=
  ⟨rfl, frame_masked 0x3F v⟩

theorem wLedctl23 (v : Byte) : Statement (.wLedctl23 v) :=
  ⟨rfl, frame_masked 0x40 v⟩

theorem wLedctl24 (v : Byte) : Statement (.wLedctl24 v) :=
  ⟨rfl, frame_masked 0x41 v⟩

theorem wLedctl25 (v : Byte) : Statement (.wLedctl25 v) :=
  ⟨rfl, frame_masked 0x42 v⟩

theorem wLedctl26 (v : Byte) : Statement (.wLedctl26 v) :=
  ⟨rfl, frame_masked 0x43 v⟩

theorem wLedctl27 (v : Byte) : Statement (.wLedctl27 v) :=
  ⟨rfl, frame_masked 0x44 v⟩

theorem wLedctl28 (v : Byte) : Statement (.wLedctl28 v) :=
  ⟨rfl, frame_masked 0x45 v⟩

theorem wGlobalctl (v : Byte) : Statement (.wGlobalctl v) :=
  ⟨rfl, frame_masked 0x4A v⟩

theorem wOutfreq (v : Byte) : Statement (.wOutfreq v) :=
  ⟨rfl, frame_masked 0x4B v⟩

theorem wReset (v : Byte) : Statement (.wReset v) :=
  ⟨rfl, frame_masked 0x4F v⟩

end Sys2Proof.Laws.TableRow
end

