-- ==== Sys2Proof/Tests/Slice0.lean ====
section
/-! SUPPORT. Tests: each on one word or one step, its expected result from the rules of spec/ or from 95_test_vectors.md
(named in its comment). Then the witnesses: for each obligation with hypotheses, states and operands that meet them. -/

open Sys2Proof Sys2Proof.Machine Sys2Proof.Claims

namespace Sys2Proof.Tests

/-! Helpers. -/

/-- The outcome is a next state of which `p` holds. -/
def nextIs (o : Step) (p : State → Bool) : Bool :=
  match o with
  | .next t => p t
  | .fault _ => false
  | .refused _ => false

/-- The outcome is this refusal. -/
def refusedBy (o : Step) (r : Refusal) : Bool :=
  match o with
  | .next _ => false
  | .fault _ => false
  | .refused q => q == r

/-- The address of DEV in these tests. -/
def here : BusAddr := 0

/-- Another address: there is one, whatever the width. -/
def elsewhere : BusAddr := 1

theorem elsewhere_ne_here : elsewhere ≠ here := by
  intro h
  have := congrArg BitVec.toNat h
  simp [elsewhere, here] at this

/-- SEQ idle with the address of DEV; DEV in Normal mode, every channel enabled, every PWM byte 0x10. -/
def demo : State where
  seq := { address := here, busy := false, pend := false, op := .powerOff, ch := 0x00, val := 0x00, step := 0 }
  dev :=
    { sd := 0x01, gcr := 0x55, ofr := 0x00
      pwmStaged := Vector.replicate 28 0x10, pwmActive := Vector.replicate 28 0x10
      ledStaged := Vector.replicate 28 0x01, ledActive := Vector.replicate 28 0x01 }
  bus := .quiet
  commands := []
  env := []
  trace := []
  answers := []
  results := []
  params := { strap := here, updateValue := 0x5A, resetValue := 0xA5, defaultGcr := some 0x33, defaultOfr := some 0x44 }
  draws := 0

/-- `demo` with command `w` presented. -/
def presented (w : CmdWord) : State := { demo with commands := [w] }

/-- `demo` with a frame of another bus actor about to be delivered to DEV. -/
def foreignFrame (f : FrameWord) : State := { demo with env := [.foreign here f] }

/-- `demo` with a command in progress at step `n`, its frame not issued yet. -/
def issuing (op : Opcode) (n : MicroStep) (c v : Byte) : State :=
  { demo with seq := { demo.seq with busy := true, op := op, ch := c, val := v, step := n } }

/-- `issuing`, the frame issued and not answered yet. -/
def waiting (op : Opcode) (n : MicroStep) (c v : Byte) (f : FrameWord) : State :=
  { issuing op n c v with
    seq := { demo.seq with busy := true, pend := true, op := op, ch := c, val := v, step := n }
    bus := .carrying here f
    trace := [⟨here, f⟩] }

/-- `issuing`, the frame answered and the answer not taken yet. -/
def answered (op : Opcode) (n : MicroStep) (c v : Byte) (a : BusAnswer) : State :=
  { issuing op n c v with
    seq := { demo.seq with busy := true, pend := true, op := op, ch := c, val := v, step := n }
    bus := .answered a }

/-- `set_pwm(7, 0x99)` waiting for the answer to its first frame, which another event precedes or not. -/
def waitingPwm (env : List EnvEvent) : State := { waiting .setPwm 0 0x07 0x99 0x0B99 with env := env }

/-- DEV with a PWM byte of channel 7 and an enable of channel 2 pending (95_test_vectors.md 2.5). -/
def pending : State :=
  { demo with dev := { demo.dev with
      pwmStaged := demo.dev.pwmStaged.set 6 0x99, ledActive := demo.dev.ledActive.set 1 0x00 } }

/-! Well-formedness: an ill-formed term for each check (R63), and the channel, which is no such check (R64). -/

theorem test_wf_power_on_a : (Instr.powerOn 0x01 0x00).wellFormed = false := by decide
theorem test_wf_power_on_b : (Instr.powerOn 0x00 0x80).wellFormed = false := by decide
theorem test_wf_power_off_a : (Instr.powerOff 0x80 0x00).wellFormed = false := by decide
theorem test_wf_power_off_b : (Instr.powerOff 0x00 0x01).wellFormed = false := by decide
theorem test_wf_set_frequency_a : (Instr.setFrequency 0x01 0x00 1).wellFormed = false := by decide
theorem test_wf_set_frequency_rsv : (Instr.setFrequency 0x00 0x40 1).wellFormed = false := by decide
theorem test_wf_accepts :
    ([.powerOn 0 0, .powerOff 0 0, .setFrequency 0 0 1, .setPwm 0x1D 0xFF, .wReset 0xFF] : List Instr).all
      Instr.wellFormed = true := by decide

/-! Decoding: every row of the tables of R62 and R67 by a written word, and the words of 95_test_vectors.md 2.1. -/

theorem test_decode_commands :
    decode (.cmd18 0x00000) = .ok (.powerOn 0 0) ∧ decode (.cmd18 0x10000) = .ok (.powerOff 0 0) ∧
    decode (.cmd18 0x20000) = .ok (.setFrequency 0 0 0) ∧ decode (.cmd18 0x20001) = .ok (.setFrequency 0 0 1) ∧
    decode (.cmd18 0x30180) = .ok (.setPwm 1 0x80) ∧ decode (.cmd18 0x31CFF) = .ok (.setPwm 28 0xFF) ∧
    decode (.cmd18 0x3FF01) = .ok (.setPwm 255 0x01) := by decide

theorem test_decode_reserved_bits :
    decode (.cmd18 0x0ABCD) = .ok (.powerOn 0xAB 0xCD) ∧ decode (.cmd18 0x2FFFE) = .ok (.setFrequency 0xFF 0x7F 0) ∧
    decode (.cmd18 0x2FFFF) = .ok (.setFrequency 0xFF 0x7F 1) := by decide

theorem test_decode_control_frames :
    decode (.bus16 0x0001) = .ok (.wShutdown 0x01) ∧ decode (.bus16 0x25C3) = .ok (.wUpdate 0xC3) ∧
    decode (.bus16 0x4A00) = .ok (.wGlobalctl 0x00) ∧ decode (.bus16 0x4B01) = .ok (.wOutfreq 0x01) ∧
    decode (.bus16 0x4FFF) = .ok (.wReset 0xFF) := by decide

theorem test_decode_pwm_frames :
    [0x0587#16, 0x0687, 0x0787, 0x0887, 0x0987, 0x0A87, 0x0B87, 0x0C87, 0x0D87, 0x0E87, 0x0F87, 0x1087, 0x1187, 0x1287,
      0x1387, 0x1487, 0x1587, 0x1687, 0x1787, 0x1887, 0x1987, 0x1A87, 0x1B87, 0x1C87, 0x1D87, 0x1E87, 0x1F87,
      0x2087].map (fun w => (decode (.bus16 w)).toOption) = pwmFrames.map (fun i => some (i 0x87)) := by decide

theorem test_decode_ledctl_frames :
    [0x2A01#16, 0x2B01, 0x2C01, 0x2D01, 0x2E01, 0x2F01, 0x3001, 0x3101, 0x3201, 0x3301, 0x3401, 0x3501, 0x3601, 0x3701,
      0x3801, 0x3901, 0x3A01, 0x3B01, 0x3C01, 0x3D01, 0x3E01, 0x3F01, 0x4001, 0x4101, 0x4201, 0x4301, 0x4401,
      0x4501].map (fun w => (decode (.bus16 w)).toOption) = ledctlFrames.map (fun i => some (i 0x01)) := by decide

/-- The edges of every hole of the map (R15). -/
theorem test_decode_unmapped :
    [0x01#8, 0x04, 0x21, 0x24, 0x26, 0x29, 0x46, 0x49, 0x4C, 0x4E, 0x50, 0xFF].all
      (fun r => decode (.bus16 (frameWord r 0x00)) == .error (.unmapped r)) = true := by decide

theorem test_encode :
    encode (.setPwm 3 0x40) = .cmd18 0x30340 ∧ encode (.setPwm 29 0x05) = .cmd18 0x31D05 ∧
    encode (.setFrequency 0 0 1) = .cmd18 0x20001 ∧ encode (.wPwm28 0xFF) = .bus16 0x20FF := by decide

/-- A command in three whole bytes, in its own 18 bits, and with padding that is not zero. -/
theorem test_table_words :
    decodeTableWord 24 0x30340 = some (.setPwm 3 0x40) ∧ decodeTableWord 18 0x10000 = some (.powerOff 0 0) ∧
    decodeTableWord 24 0x40000 = none ∧ decodeTableWord 20 0x30340 = none ∧ decodeTableWord 16 0x4501 = some (.wLedctl28 0x01) := by decide

/-! The microprogram, against the trace of V1 and the frames of S1, S5, S6. -/

/-- V1, with the model's RV = 0xA5 and UV = 0x5A. -/
theorem test_power_on_frames :
    (List.range 32).map (fun n => uop demo.params .powerOn (BitVec.ofNat 6 n) 0 0) =
      [0x4FA5#16, 0x0001, 0x2A01, 0x2B01, 0x2C01, 0x2D01, 0x2E01, 0x2F01, 0x3001, 0x3101, 0x3201, 0x3301, 0x3401,
        0x3501, 0x3601, 0x3701, 0x3801, 0x3901, 0x3A01, 0x3B01, 0x3C01, 0x3D01, 0x3E01, 0x3F01, 0x4001, 0x4101,
        0x4201, 0x4301, 0x4401, 0x4501, 0x255A, 0x4A00].map some := by decide

theorem test_other_frames :
    uop demo.params .powerOff 0 0 0 = some 0x0000 ∧ uop demo.params .setFrequency 0 0 0x01 = some 0x4B01 ∧
    uop demo.params .setPwm 0 0x01 0x80 = some 0x0580 ∧ uop demo.params .setPwm 0 0x1C 0xFF = some 0x20FF ∧
    uop demo.params .setPwm 1 0x1C 0xFF = some 0x255A ∧ uop demo.params .powerOn 32 0 0 = none := by decide

/-! ACCEPT (R83). -/

theorem test_accept_set_pwm :
    nextIs (step (presented 0x30340)) (fun t => t.seq == ⟨here, true, false, .setPwm, 0x03, 0x40, 0⟩ &&
      t.commands == [] && t.trace == []) = true := by decide

/-- V11: channels 0, 29 and 255. -/
theorem test_param_errors :
    [0x30007#18, 0x31D05, 0x3FF01].all (fun w => nextIs (step (presented w)) (fun t => t.results == [.paramErr] &&
      t.seq == demo.seq && t.dev == demo.dev && t.trace == [])) = true := by decide

theorem test_channel_edges :
    [0x30107#18, 0x31C05].all (fun w => nextIs (step (presented w)) (fun t => t.seq.busy && t.results == [])) = true := by
  decide

/-- 0x2FFFE and 0x2FFFF: reserved bits ignored (2.1). -/
theorem test_accept_set_frequency :
    nextIs (step (presented 0x2FFFE)) (fun t => t.seq.op == .setFrequency && t.seq.val == 0x00 && t.seq.busy) = true ∧
    nextIs (step (presented 0x2FFFF)) (fun t => t.seq.val == 0x01) = true := by decide

theorem test_accept_power_on :
    nextIs (step (presented 0x0ABCD)) (fun t => t.seq.op == .powerOn && t.seq.busy && !t.seq.pend &&
      t.seq.step == 0) = true := by decide

theorem test_accept_power_off :
    nextIs (step (presented 0x10000)) (fun t => t.seq.op == .powerOff && t.seq.busy && t.seq.step == 0) = true := by
  decide

/-- A command presented while SEQ is busy waits (2.6). -/
theorem test_busy_accepts_nothing :
    nextIs (step { waitingPwm [] with commands := [0x10000] }) (fun t => t.commands == [0x10000] && t.results == [] &&
      t.seq == (waitingPwm []).seq) = true := by decide

/-! ISSUE, BUS, RESPONSE (R84 to R87). -/

theorem test_issue :
    nextIs (step (issuing .setPwm 0 0x03 0x40)) (fun t => t.busWrite == some ⟨here, 0x0740⟩ && t.seq.pend &&
      t.trace == [⟨here, 0x0740⟩] && t.seq.step == 0) = true := by decide

theorem test_overrun_faults : step (issuing .powerOff 1 0 0) = .fault .microprogramOverrun := rfl

theorem test_wait : step (waitingPwm []) = .next (waitingPwm []) := rfl

theorem test_bus_ok :
    nextIs (step (waitingPwm [.answer .ok])) (fun t => t.dev.pwmStaged[6] == 0x99 && t.dev.pwmActive[6] == 0x10 &&
      t.bus == .answered .ok && t.seq.pend) = true := by decide

/-- V12: the failed frame did not reach DEV. -/
theorem test_bus_fail :
    ∀ e, ∃ t, step (waitingPwm [.answer (.fail e)]) = .next t ∧ t.dev = demo.dev ∧ t.bus = .answered (.fail e) :=
  fun _ => ⟨_, rfl, rfl, rfl⟩

theorem test_response_advances :
    nextIs (step (answered .setPwm 0 0x03 0x40 .ok)) (fun t => t.seq.step == 1 && t.seq.busy && !t.seq.pend &&
      t.results == []) = true := by decide

/-- Step 31 is the last of POWER_ON: the command ends there, with OK (2.6). -/
theorem test_response_ends :
    nextIs (step (answered .powerOn 31 0 0 .ok)) (fun t => t.seq.step == 31 && !t.seq.busy && t.results == [.ok]) =
      true := by decide

/-- P3, command 1: SEQ idle, `step` left at 16, the error BUS gave. -/
theorem test_response_fail :
    ∀ e, ∃ t, step (answered .powerOn 16 0 0 (.fail e)) = .next t ∧ t.seq.step = 16 ∧ t.seq.busy = false ∧
      t.seq.pend = false ∧ t.bus = .quiet ∧ t.results = [.busErr e] := fun _ => ⟨_, rfl, rfl, rfl, rfl, rfl, rfl⟩

/-! Events of the outside world. -/

/-- V7, for any address. -/
theorem test_construct :
    ∀ a, ∃ t, step { demo with env := [.construct a] } = .next t ∧ t.seq.address = a ∧ t.seq.busy = false ∧
      t.seq.pend = false ∧ t.trace = [] ∧ t.dev = demo.dev := fun _ => ⟨_, rfl, rfl, rfl, rfl, rfl, rfl⟩

theorem test_dev_power_on :
    nextIs (step (waitingPwm [.devPowerOn])) (fun t => t.dev.sd == 0x00 && t.dev.gcr == 0x33 &&
      t.seq == (waitingPwm []).seq) = true := by decide

/-- A frame to an unmapped register has no meaning (2.5, D15). -/
theorem test_foreign_unmapped : refusedBy (step (foreignFrame 0x2107)) (.unmappedRegister 0x21) = true := by decide

/-- R176: a frame for another device. -/
theorem test_foreign_elsewhere :
    step { demo with env := [.foreign elsewhere 0x0000] } = .next demo := by
  have h : fetch { demo with env := [.foreign elsewhere 0x0000] } = .event (.next demo) :=
    if_neg elsewhere_ne_here
  rw [step, h]

/-- A SEQ that has taken the last answer of a command may be constructed again (R86, R95). -/
theorem test_construct_after_command :
    ∀ a, ∃ t u, step { answered .powerOff 0 0 0 .ok with env := [.later, .construct a] } = .next t ∧
      step t = .next u ∧ u.results = [.ok] ∧ u.seq.address = a := fun _ => ⟨_, _, rfl, rfl, rfl, rfl⟩

/-! Frames on DEV: the rows of 95_test_vectors.md 2.5. -/

theorem test_w_reset :
    nextIs (step (foreignFrame 0x4FEE)) (fun t => t.dev.sd == 0x00 && t.dev.gcr == 0x33 && t.dev.ofr == 0x44 &&
      t.dev.pwmStaged.toList.all (· == 0x00) && t.dev.pwmActive.toList.all (· == 0x00) && t.dev.ledStaged.toList.all (· == 0x00) &&
      t.dev.ledActive.toList.all (· == 0x00)) = true := by decide

theorem test_w_shutdown_off :
    nextIs (step (foreignFrame 0x0000)) (fun t => t.dev == { demo.dev with sd := 0x00 } &&
      t.dev.visible 0 == some .off) = true := by decide

theorem test_w_shutdown_on :
    nextIs (exec (.wShutdown 0x01) { demo with dev := { demo.dev with sd := 0x00 } }) (fun t => t.dev == demo.dev &&
      t.dev.mode == some .normal) = true := by decide

/-- An undefined byte is stored, with no meaning (D20). -/
theorem test_w_shutdown_undefined :
    nextIs (exec (.wShutdown 0x02) demo) (fun t => t.dev.sd == 0x02 && t.dev.mode == none && t.dev.visible 0 == none) =
      true := by decide

theorem test_w_pwm_all :
    (pwmFrames.zipIdx.all fun x => nextIs (exec (x.1 0x99) demo) (fun t =>
      t.dev == { demo.dev with pwmStaged := (demo.dev.pwmStaged.setIfInBounds x.2 0x99) })) = true := by decide

theorem test_w_ledctl_all :
    (ledctlFrames.zipIdx.all fun x => nextIs (exec (x.1 0x00) demo) (fun t =>
      t.dev == { demo.dev with ledStaged := (demo.dev.ledStaged.setIfInBounds x.2 0x00) })) = true := by decide

theorem test_w_update_latches :
    nextIs (exec (.wUpdate 0x5A) pending) (fun t => t.dev.pwmActive[6] == 0x99 && t.dev.ledActive[1] == 0x01 &&
      t.dev.pwmStaged == pending.dev.pwmStaged && t.dev.sd == 0x01) = true := by decide

theorem test_w_update_refused : refusedBy (exec (.wUpdate 0x00) pending) (.updateValueUndefined 0x00) = true := by
  decide

theorem test_w_globalctl :
    nextIs (step (foreignFrame 0x4A00)) (fun t => t.dev == { demo.dev with gcr := 0x00 } &&
      t.dev.scaling == some .maximum) = true := by decide

theorem test_w_outfreq :
    nextIs (step (foreignFrame 0x4B01)) (fun t => t.dev == { demo.dev with ofr := 0x01 } &&
      t.dev.carrier == some .high) = true := by decide

/-- R45's last sentence: an undefined active enable has no visible setting, in Shutdown mode either. -/
theorem test_visible_undefined :
    nextIs (exec (.wShutdown 0x00) { demo with dev := { demo.dev with ledActive := demo.dev.ledActive.set 3 0x02 } })
      (fun t => t.dev.visible 3 == none && t.dev.visible 4 == some .off) = true := by decide

/-- V8, V14, V15: on, off in Shutdown mode, off when not enabled. -/
theorem test_visible :
    demo.dev.visible 27 = some (.on 0x10) ∧ ({ demo.dev with sd := 0x00 } : Dev).visible 2 = some .off ∧
    pending.dev.visible 1 = some .off := by decide

/-! The first instruction after reset. -/

theorem test_fetch_command :
    nextIs (step (State.reset.withFetchWord 24 0x30340)) (fun t => t.seq.busy && t.seq.ch == 0x03 &&
      t.seq.val == 0x40) = true := by decide

theorem test_fetch_frame :
    nextIs (step (State.reset.withFetchWord 16 0x0B99)) (fun t => t.dev.pwmStaged[6] == 0x99 &&
      t.dev.pwmActive[6] == 0x00) = true := by decide

theorem test_core : Sys2Proof.core.reset = State.reset ∧ Sys2Proof.core.step = step := ⟨rfl, rfl⟩

/-! Witnesses: states and operands that meet all hypotheses of an obligation together, one for each of its clauses. -/

theorem demo_idle : Idle demo := ⟨rfl, rfl, rfl⟩

theorem calm_nil : Calm [] := nofun

/-- `later` gives SEQ the move: what stands behind it does not come first. -/
theorem calm_later (rest : List EnvEvent) : Calm (.later :: rest) := by
  intro e r h
  cases h
  rfl

theorem onlyAnswers_ok : OnlyAnswers [.answer .ok] := by
  intro e he
  obtain rfl := List.mem_singleton.mp he
  exact ⟨.ok, rfl⟩

/-- Idle, with no frame outstanding. -/
theorem demo_engine_ok : EngineOk demo := ⟨nofun, nofun, ⟨fun _ => rfl, fun _ => rfl⟩, nofun⟩

/-- In a command, the first frame outstanding. -/
theorem waiting_engine_ok (env : List EnvEvent) : EngineOk (waitingPwm env) := by
  refine ⟨fun _ => rfl, fun _ => ⟨(by decide : (0 : MicroStep) ≤ 1), fun _ => rfl, nofun⟩, ⟨nofun, nofun⟩, ?_⟩
  intro d f h
  cases h
  exact ⟨rfl, (by decide : uop demo.params .setPwm 0 0x07 0x99 = some 0x0B99)⟩

/-- In a command, the last answer at SEQ. -/
theorem answered_engine_ok : EngineOk (answered .setFrequency 0 0 0x01 .ok) := by
  refine ⟨fun _ => rfl, fun _ => ⟨by decide, nofun, fun _ => .inr rfl⟩, ⟨nofun, nofun⟩, nofun⟩

theorem witness_DevPowerOnGivesDefaults :
    ({ demo with env := [.devPowerOn, .answer .ok] } : State).env = .devPowerOn :: [.answer .ok] := rfl

theorem witness_ConstructLoadsAddressSilently :
    ({ demo with env := [.construct elsewhere] } : State).env = .construct elsewhere :: [] ∧
    ({ demo with env := [.construct elsewhere] } : State).seq.busy = false := ⟨rfl, rfl⟩

theorem witness_ConstructWhileBusyRefused :
    (waitingPwm [.construct elsewhere]).env = .construct elsewhere :: [] ∧ (waitingPwm [.construct elsewhere]).seq.busy = true :=
  ⟨rfl, rfl⟩

/-- The edges of every hole of the map. -/
theorem witness_RegisterAddressSelectsInstruction :
    ∀ r ∈ [0x01#8, 0x04#8, 0x21#8, 0x24#8, 0x26#8, 0x29#8, 0x46#8, 0x49#8, 0x4C#8, 0x4E#8, 0x50#8, 0xFF#8],
      ¬ Mapped r := by
  unfold Mapped
  decide

theorem witness_EncodeOfDecode :
    decode (.cmd18 0x30340) = .ok (.setPwm 3 0x40) ∧ decode (.bus16 0x4501) = .ok (.wLedctl28 0x01) := by decide

theorem witness_StepRunsDecodedInstruction :
    ((presented 0x30340).seq.busy = false ∧ Calm (presented 0x30340).env ∧
      (presented 0x30340).commands = 0x30340 :: [] ∧ decode (.cmd18 0x30340) = .ok (.setPwm 3 0x40)) ∧
    ((foreignFrame 0x0B99).env = .foreign (foreignFrame 0x0B99).params.strap 0x0B99 :: [] ∧
      decode (.bus16 0x0B99) = .ok (.wPwm7 0x99)) ∧
    ((waitingPwm [.answer .ok]).seq.busy = true ∧ (waitingPwm [.answer .ok]).seq.pend = true ∧
      (waitingPwm [.answer .ok]).bus = .carrying (waitingPwm [.answer .ok]).params.strap 0x0B99 ∧
      (waitingPwm [.answer .ok]).env = .answer .ok :: [] ∧ decode (.bus16 0x0B99) = .ok (.wPwm7 0x99)) :=
  ⟨⟨rfl, calm_nil, rfl, rfl⟩, ⟨rfl, rfl⟩, rfl, rfl, rfl, rfl, rfl⟩

theorem witness_UnmappedFrameRefused :
    (foreignFrame 0x2107).env = .foreign (foreignFrame 0x2107).params.strap (frameWord 0x21 0x07) :: [] ∧
    ¬ Mapped 0x21 := ⟨rfl, by unfold Mapped; decide⟩

/-- A foreign frame to another address; a frame of SEQ where the strap gives DEV another address. -/
theorem witness_FrameForAnotherDeviceLeavesDev :
    (({ demo with env := [.foreign elsewhere 0x0000] } : State).env = .foreign elsewhere 0x0000 :: [] ∧
      elsewhere ≠ demo.params.strap) ∧
    (let s : State := { waitingPwm [.answer .ok] with params := { demo.params with strap := elsewhere } }
     s.seq.busy = true ∧ s.seq.pend = true ∧ s.bus = .carrying here 0x0B99 ∧ s.env = .answer .ok :: [] ∧
       here ≠ s.params.strap) := ⟨⟨rfl, elsewhere_ne_here⟩, rfl, rfl, rfl, rfl, elsewhere_ne_here.symm⟩

/-- Something pending, and nothing pending. -/
theorem witness_UpdateFrameLatches :
    pending.dev.pwmActive ≠ pending.dev.pwmStaged ∧ demo.dev.pwmActive = demo.dev.pwmStaged ∧
    demo.dev.ledActive = demo.dev.ledStaged := by decide

theorem witness_UpdateFrameWithOtherValueRefused : (0x00 : Byte) ≠ demo.params.updateValue := by decide

theorem witness_FramesAreIdempotent :
    IsFrame (.wPwm7 0x99) ∧ (∃ t, exec (.wPwm7 0x99) demo = .next t) ∧ IsFrame (.wUpdate 0x5A) ∧
    ∃ t, exec (.wUpdate 0x5A) pending = .next t := ⟨⟨_, rfl⟩, ⟨_, rfl⟩, ⟨_, rfl⟩, ⟨_, rfl⟩⟩

/-- The four rows of R98's table. -/
theorem witness_ModeFollowsFrames :
    ∀ x ∈ ([(0x4F#8, 0xFF#8, .wReset 0xFF), (0x00#8, 0x01#8, .wShutdown 0x01), (0x00#8, 0x00#8, .wShutdown 0x00),
      (0x25#8, 0x5A#8, .wUpdate 0x5A)] : List (Byte × Byte × Instr)),
      decode (.bus16 (frameWord x.1 x.2.1)) = .ok x.2.2 ∧ nextIs (exec x.2.2 pending) (fun _ => true) = true := by
  decide

/-- The edges of the rows with a range, and the first step past each microsequence. -/
theorem witness_MicroprogramRows :
    (2 ≤ 2 ∧ 2 ≤ 29) ∧ (2 ≤ 29 ∧ 29 ≤ 29) ∧ (1 ≤ (0x01 : Byte).toNat ∧ (0x01 : Byte).toNat ≤ 28) ∧
    (1 ≤ (0x1C : Byte).toNat ∧ (0x1C : Byte).toNat ≤ 28) ∧ lastStep .powerOn < 32 ∧ lastStep .powerOff < 1 ∧
    lastStep .setFrequency < 1 ∧ lastStep .setPwm < 2 := by decide

/-- Idle; channels 1 and 28, 0 and 29; busy, with a step that has a next state. -/
theorem witness_IdleSeqAcceptsCommands :
    demo.seq.busy = false ∧ (1 ≤ (0x01 : Byte).toNat ∧ (0x1C : Byte).toNat ≤ 28) ∧
    ((0x00 : Byte).toNat < 1 ∨ 28 < (0x00 : Byte).toNat) ∧ ((0x1D : Byte).toNat < 1 ∨ 28 < (0x1D : Byte).toNat) ∧
    (waitingPwm []).seq.busy = true ∧ ∃ t, step (waitingPwm []) = .next t :=
  ⟨rfl, by decide, by decide, by decide, rfl, ⟨_, rfl⟩⟩

theorem witness_BusySeqAcceptsNothing :
    (waitingPwm []).seq.busy = true ∧ decode (.cmd18 0x10000) = .ok (.powerOff 0 0) := ⟨rfl, rfl⟩

theorem witness_ParameterErrorOnlyForBadChannel :
    (Idle demo ∧ ((0x00 : Byte).toNat < 1 ∨ 28 < (0x00 : Byte).toNat)) ∧
    (Idle demo ∧ ((0x1D : Byte).toNat < 1 ∨ 28 < (0x1D : Byte).toNat)) ∧
    ∃ t, step (presented 0x31D05) = .next t ∧ t.results = (presented 0x31D05).results ++ [.paramErr] :=
  ⟨⟨demo_idle, by decide⟩, ⟨demo_idle, by decide⟩, _, rfl, rfl⟩

/-- With an empty `env`, and with a `later` before another actor's frame. -/
theorem witness_IssuePresentsOneFrame :
    (∀ env ∈ [[], [.later, .foreign here 0x0000]],
      let s : State := { issuing .powerOn 31 0 0 with env := env }
      s.seq.busy = true ∧ s.seq.pend = false ∧ Calm s.env ∧
        uop s.params s.seq.op s.seq.step s.seq.ch s.seq.val = some 0x4A00) ∧
    ∃ t, step (issuing .powerOn 31 0 0) = .next t ∧ t.trace ≠ (issuing .powerOn 31 0 0).trace := by
  refine ⟨?_, _, rfl, nofun⟩
  intro env he
  have hc : Calm env := by
    simp only [List.mem_cons, List.not_mem_nil, or_false] at he
    rcases he with rfl | rfl
    · exact calm_nil
    · exact calm_later _
  exact ⟨rfl, rfl, hc, (by decide : uop demo.params .powerOn 31 0 0 = some 0x4A00)⟩

/-- Another actor's frame arrives while SEQ waits; and nothing arrives. -/
theorem witness_UnansweredFrameWaitsForEver :
    (let s := waitingPwm [.foreign here 0x0000];
      s.seq.busy = true ∧ s.seq.pend = true ∧ s.bus = .carrying here 0x0B99 ∧ ∃ t, step s = .next t) ∧
    (let s := waitingPwm [];
      s.seq.busy = true ∧ s.seq.pend = true ∧ s.bus = .carrying here 0x0B99 ∧ s.env = []) :=
  ⟨⟨rfl, rfl, rfl, _, rfl⟩, rfl, rfl, rfl, rfl⟩

theorem witness_FailedFrameLeavesDev :
    ∀ e, let s := waitingPwm [.answer (.fail e)];
      s.seq.busy = true ∧ s.seq.pend = true ∧ s.bus = .carrying here 0x0B99 ∧ s.env = .answer (.fail e) :: [] :=
  fun _ => ⟨rfl, rfl, rfl, rfl⟩

/-- At the last step of POWER_ON, and at the step before it, where the invariant holds. -/
theorem witness_ResponseOkAdvancesOrEnds :
    (let s := answered .powerOn 31 0 0 .ok;
     s.seq.busy = true ∧ s.seq.pend = true ∧ s.bus = .answered .ok ∧ Calm s.env ∧
       s.seq.step = lastStep s.seq.op) ∧
    (let s := answered .powerOn 30 0 0 .ok;
     s.seq.busy = true ∧ s.seq.pend = true ∧ s.bus = .answered .ok ∧ Calm s.env ∧ EngineOk s ∧
       s.seq.step ≠ lastStep s.seq.op) :=
  ⟨⟨rfl, rfl, rfl, calm_nil, rfl⟩, rfl, rfl, rfl, calm_nil,
    ⟨fun _ => rfl, fun _ => ⟨(by decide : (30 : MicroStep) ≤ 31), nofun, nofun⟩, ⟨nofun, nofun⟩, nofun⟩,
    (by decide : (30 : MicroStep) ≠ 31)⟩

theorem witness_ResponseFailEndsCommand :
    ∀ e, let s := answered .powerOn 16 0 0 (.fail e);
      s.seq.busy = true ∧ s.seq.pend = true ∧ s.bus = .answered (.fail e) ∧ Calm s.env :=
  fun _ => ⟨rfl, rfl, rfl, calm_nil⟩

/-- A foreign frame arrives at an idle SEQ; and nothing but an answer waits. -/
theorem witness_IdleSeqIssuesNothing :
    (let s := foreignFrame 0x0B99;
     s.seq.busy = false ∧ s.commands = [] ∧ ∃ t, runSteps 2 s = .next t) ∧
    (let s : State := { demo with env := [.answer .ok] }
     s.seq.busy = false ∧ s.commands = [] ∧ OnlyAnswers s.env) := ⟨⟨rfl, rfl, _, rfl⟩, rfl, rfl, onlyAnswers_ok⟩

/-- `demo` with these answers to come, and a CONSTRUCT of the finished SEQ after them. -/
def answering (as : List BusAnswer) : State := { demo with env := answerEvents as ++ [.later, .construct elsewhere] }

theorem answering_idle (as : List BusAnswer) : Idle (answering as) := ⟨rfl, rfl, rfl⟩

/-- All 32 frames of POWER_ON answered `ok`, and a failure at the first and at the last of them, before a `later` and a
CONSTRUCT; SET_PWM for channels 1 and 28. -/
theorem witness_CommandsRunTheirFrames :
    (powerOnFrames demo.params).length = 32 ∧ (0 < 32 ∧ 31 < 32) ∧ Calm [.later, .construct elsewhere] ∧
    (∀ as, Idle (answering as)) ∧
    (answering (List.replicate 32 .ok)).env =
      answerEvents (List.replicate (powerOnFrames demo.params).length .ok) ++ [.later, .construct elsewhere] ∧
    (∀ e, ∀ j ∈ [0, 31], (answering (List.replicate j .ok ++ [.fail e])).env =
      answerEvents (List.replicate j .ok ++ [.fail e]) ++ [.later, .construct elsewhere]) ∧
    (1 ≤ (0x01 : Byte).toNat ∧ (0x01 : Byte).toNat ≤ 28) ∧ (1 ≤ (0x1C : Byte).toNat ∧ (0x1C : Byte).toNat ≤ 28) :=
  ⟨rfl, by decide, calm_later _, answering_idle, rfl, fun _ _ _ => rfl, by decide, by decide⟩

theorem witness_PowerOnReachesOperationalState :
    let s := answering (List.replicate 32 .ok);
    Idle s ∧ s.seq.address = s.params.strap ∧ Calm [.later, .construct elsewhere] ∧
      s.env = answerEvents (List.replicate 32 .ok) ++ [.later, .construct elsewhere] :=
  ⟨answering_idle _, rfl, calm_later _, rfl⟩

/-- Every row of the partial-state table, at its edges. -/
theorem witness_PowerOnFailureLeavesPartialState :
    ∀ e, ∀ k ∈ [1, 2, 3, 30, 31, 32],
      let s := answering (List.replicate (k - 1) .ok ++ [.fail e]);
      1 ≤ k ∧ k ≤ 32 ∧ Idle s ∧ s.seq.address = s.params.strap ∧ Calm [.later, .construct elsewhere] ∧
        s.env = answerEvents (List.replicate (k - 1) .ok ++ [.fail e]) ++ [.later, .construct elsewhere] := by
  intro e k hk
  have h : 1 ≤ k ∧ k ≤ 32 := by simp at hk; omega
  exact ⟨h.1, h.2, answering_idle _, rfl, calm_later _, rfl⟩

/-- The one frame answered `ok`, and answered with a failure. -/
theorem witness_PowerOffDarkensAndKeeps :
    ∀ a ∈ ([.ok, .fail 0] : List BusAnswer), let s := answering [a];
      Idle s ∧ s.seq.address = s.params.strap ∧ Calm [.later, .construct elsewhere] ∧
        s.env = answerEvents [a] ++ [.later, .construct elsewhere] :=
  fun _ _ => ⟨answering_idle _, rfl, calm_later _, rfl⟩

/-- The same, with DEV in Normal mode. -/
theorem witness_SetFrequencySelectsCarrier :
    ∀ a ∈ ([.ok, .fail 0] : List BusAnswer), let s := answering [a];
      Idle s ∧ s.seq.address = s.params.strap ∧ Calm [.later, .construct elsewhere] ∧
        s.env = answerEvents [a] ++ [.later, .construct elsewhere] ∧ s.dev.mode = some .normal :=
  fun _ _ => ⟨answering_idle _, rfl, calm_later _, rfl, rfl⟩

/-- Channels 1 and 28, enabled, with DEV in Normal mode. -/
theorem witness_SetPwmStagesAndLatches :
    (1 ≤ (0x01 : Byte).toNat ∧ (0 : Fin 28).val + 1 = (0x01 : Byte).toNat) ∧
    ((0x1C : Byte).toNat ≤ 28 ∧ (27 : Fin 28).val + 1 = (0x1C : Byte).toNat) ∧
    (demo.dev.ledStaged[0] = 0x01 ∧ demo.dev.ledStaged[27] = 0x01) ∧
    let s := answering [.ok, .ok];
    Idle s ∧ s.seq.address = s.params.strap ∧ Calm [.later, .construct elsewhere] ∧
      s.env = answerEvents [.ok, .ok] ++ [.later, .construct elsewhere] ∧ s.dev = demo.dev ∧
      s.dev.mode = some .normal :=
  ⟨by decide, by decide, by decide, answering_idle _, rfl, calm_later _, rfl, rfl, rfl⟩

/-- A failure at the first frame, and at the latch. -/
theorem witness_SetPwmFailureIsNotVisible :
    (1 ≤ (0x1C : Byte).toNat ∧ (0x1C : Byte).toNat ≤ 28) ∧ Calm [.later, .construct elsewhere] ∧
    ∀ as ∈ ([[.fail 0], [.ok, .fail 0]] : List (List BusAnswer)), let s := answering as;
      Idle s ∧ s.seq.address = s.params.strap ∧ s.env = answerEvents as ++ [.later, .construct elsewhere] :=
  ⟨by decide, calm_later _, fun _ _ => ⟨answering_idle _, rfl, rfl⟩⟩

/-- In the middle of a command: a delivery, a response, and a foreign frame. -/
theorem witness_StepKeepsEngineInvariant :
    (EngineOk (waitingPwm [.answer .ok]) ∧ ∃ t, step (waitingPwm [.answer .ok]) = .next t) ∧
    (EngineOk (answered .setFrequency 0 0 0x01 .ok) ∧
      ∃ t, step (answered .setFrequency 0 0 0x01 .ok) = .next t) ∧
    (EngineOk (waitingPwm [.foreign here 0x4F00]) ∧ ∃ t, step (waitingPwm [.foreign here 0x4F00]) = .next t) :=
  ⟨⟨waiting_engine_ok _, _, rfl⟩, ⟨answered_engine_ok, _, rfl⟩, waiting_engine_ok _, _, rfl⟩

/-- While BUS answers, and while another device's frame passes. -/
theorem witness_ExclusiveBusNeverStops :
    EngineOk (waitingPwm [.answer .ok]) ∧ ¬ ForeignFrameNext (waitingPwm [.answer .ok]) ∧
    (∀ a rest, (waitingPwm [.answer .ok]).env ≠ .construct a :: rest) ∧ OnlyAnswers (waitingPwm [.answer .ok]).env ∧
    EngineOk (waitingPwm [.foreign elsewhere 0x2100]) ∧ ¬ ForeignFrameNext (waitingPwm [.foreign elsewhere 0x2100]) := by
  refine ⟨waiting_engine_ok _, nofun, nofun, onlyAnswers_ok, waiting_engine_ok _, ?_⟩
  rintro ⟨f, rest, h⟩
  injection h with h
  injection h with h
  exact elsewhere_ne_here h

/-- The frame of SET_PWM on channel 28 is issued. -/
theorem witness_IssuedFramesAreOfTheSet :
    EngineOk (issuing .setPwm 0 0x1C 0xFF) ∧ ∃ t, step (issuing .setPwm 0 0x1C 0xFF) = .next t ∧
      t.trace ≠ (issuing .setPwm 0 0x1C 0xFF).trace :=
  ⟨⟨fun _ => rfl, fun _ => ⟨by decide, fun _ => rfl, nofun⟩, ⟨fun _ => rfl, fun _ => rfl⟩, nofun⟩, _, rfl, by decide⟩

/-- The three events that change DEV. -/
theorem witness_DevChangesOnlyOnDelivery :
    (∃ t, step (foreignFrame 0x4F00) = .next t ∧ t.dev ≠ (foreignFrame 0x4F00).dev) ∧
    (∃ t, step { demo with env := [.devPowerOn] } = .next t ∧ t.dev ≠ demo.dev) ∧
    ∃ t, step (waitingPwm [.answer .ok]) = .next t ∧ t.dev ≠ demo.dev :=
  ⟨⟨_, rfl, by decide⟩, ⟨_, rfl, by decide⟩, _, rfl, by decide⟩

theorem witness_AddressChangesByConstructOnly :
    ∃ t, step { demo with env := [.construct elsewhere] } = .next t ∧ t.seq.address ≠ demo.seq.address :=
  ⟨_, rfl, elsewhere_ne_here⟩

/-- A result of each kind. -/
theorem witness_ResultsEndCommands :
    (∃ t, step (answered .powerOn 31 0 0 .ok) = .next t ∧ t.results = [.ok]) ∧
    (∀ e, ∃ t, step (answered .powerOn 16 0 0 (.fail e)) = .next t ∧ t.results = [.busErr e]) ∧
    ∃ t, step (presented 0x30007) = .next t ∧ t.results = [.paramErr] :=
  ⟨⟨_, rfl, rfl⟩, fun _ => ⟨_, rfl, rfl⟩, _, rfl, rfl⟩

/-- DEV replaced under a SEQ that has a frame outstanding. -/
theorem witness_SeqBlindToDev :
    ∃ t, step (waitingPwm [.answer .ok]) = .next t ∧ ({ demo.dev with sd := 0x77 } : Dev) ≠ demo.dev :=
  ⟨_, rfl, by decide⟩

/-- `demo` about to take SET_FREQUENCY (high); another actor's frame reaches DEV before BUS answers. -/
def disturbed : State := { demo with env := [.later, .foreign here 0x0000, .answer .ok] }

/-- `demo` about to take SET_FREQUENCY (high); once the result is there another actor's frame reaches DEV. -/
def exclusive : State := { demo with env := [.answer .ok, .later, .foreign here 0x0000] }

theorem exclusive_step {s t : State} {n : Nat} (hs : step s = .next t) (hf : ¬ ForeignFrameNext s)
    (h : ExclusiveBus n t) : ExclusiveBus (n + 1) s :=
  ⟨hf, fun u hu => by rw [hs] at hu; cases hu; exact h⟩

theorem powered_step {s t : State} {n : Nat} (hs : step s = .next t) (hf : ¬ PowerOnNext s)
    (h : StaysPowered n t) : StaysPowered (n + 1) s :=
  ⟨hf, fun u hu => by rw [hs] at hu; cases hu; exact h⟩

/-- On a bus that is not exclusive, and at the event that ends the command. -/
theorem witness_CommandTraceOnAnyBus :
    (∃ u, Within (.setFrequency 0 0 1) disturbed 3 u) ∧
    ∃ u v, Within (.setFrequency 0 0 1) { demo with env := [.answer .ok] } 2 u ∧ step u = .next v ∧
      v.results = demo.results ++ [.ok] :=
  ⟨⟨_, ⟨rfl, rfl, rfl⟩, ⟨_, rfl, rfl⟩, rfl⟩, _, _, ⟨⟨rfl, rfl, rfl⟩, ⟨_, rfl, rfl⟩, rfl⟩, rfl, rfl⟩

/-- Exclusive access up to the result, and not after it. -/
theorem witness_CommandDevOnExclusiveBus :
    ∃ t u v, Within (.setFrequency 0 0 1) exclusive 2 u ∧ exec (.setFrequency 0 0 1) exclusive = .next t ∧
      exclusive.seq.address = exclusive.params.strap ∧ ExclusiveBus 2 t ∧ StaysPowered 2 t ∧
      step u = .next v ∧ v.results = exclusive.results ++ [.ok] ∧ ForeignFrameNext v := by
  refine ⟨_, _, _, ⟨⟨rfl, rfl, rfl⟩, ⟨_, rfl, rfl⟩, rfl⟩, rfl, rfl, ?_, ?_, rfl, rfl, ⟨_, _, rfl⟩⟩
  · exact exclusive_step rfl (fun ⟨_, _, h⟩ => nomatch h) (exclusive_step rfl (fun ⟨_, _, h⟩ => nomatch h) trivial)
  · exact powered_step rfl (fun ⟨_, h⟩ => nomatch h) (powered_step rfl (fun ⟨_, h⟩ => nomatch h) trivial)

theorem witness_VisibleSettings :
    ({ demo.dev with sd := 0x00 } : Dev).sd = 0x00 ∧ demo.dev.sd = 0x01 ∧ demo.dev.ledActive[27] = 0x01 ∧ pending.dev.ledActive[1] = 0x00 ∧
    ({ demo.dev with sd := 0x02 } : Dev).sd ≠ 0x00 ∧ ({ demo.dev with sd := 0x02 } : Dev).sd ≠ 0x01 ∧
    (demo.dev.ledActive.set 3 0x02)[3] ≠ 0x00 ∧ (demo.dev.ledActive.set 3 0x02)[3] ≠ 0x01 := by decide

end Sys2Proof.Tests
end

section
/-! PROOFS. The register-address map of R67: what the decoder makes of a frame word at each register address. -/

namespace Sys2Proof.Encoding

open Sys2Proof.Claims

/-- At a register address of the map, a frame decodes to the instruction the map gives. -/
theorem decode_frameWord_of_frameInstr_eq_some {reg v : Byte} {i : Instr} (h : frameInstr reg v = some i) :
    decode (.bus16 (frameWord reg v)) = .ok i := by
  simp only [decode, decodeFrame_frameWord, h]

/-- At any other register address it decodes to none (R44). -/
theorem decode_frameWord_of_frameInstr_eq_none {reg v : Byte} (h : frameInstr reg v = none) :
    decode (.bus16 (frameWord reg v)) = .error (.unmapped reg) := by
  simp only [decode, decodeFrame_frameWord, h]

/-- The PWM registers follow one another from 0x05, channel 1 first (R67). -/
theorem frameInstr_pwm (k : Fin 28) (v : Byte) :
    frameInstr (BitVec.ofNat 8 (0x05 + k)) v = some (pwmFrames[k] v) := by
  fin_cases k <;> rfl

/-- The LedControl registers follow one another from 0x2A, channel 1 first (R67). -/
theorem frameInstr_ledctl (k : Fin 28) (v : Byte) :
    frameInstr (BitVec.ofNat 8 (0x2A + k)) v = some (ledctlFrames[k] v) := by
  fin_cases k <;> rfl

/-- The register map has no row beside those of `Mapped`: the address of every row that selects an instruction is one. -/
theorem frameInstr_eq_none_of_not_mapped {reg : Byte} (h : ¬ Mapped reg) (v : Byte) : frameInstr reg v = none := by
  unfold frameInstr
  split
  case h_62 => rfl -- the map's default row
  all_goals exact absurd (by simp [Mapped]) h

/-- Settles O6: each clause is a row of the register map, or the absence of one, read through the decoder. -/
theorem registerAddressSelectsInstruction : Obligations.RegisterAddressSelectsInstruction := by
  intro v
  refine ⟨?shutdown, fun k => ?pwm, ?update, fun k => ?ledctl, ?globalctl, ?outfreq, ?reset, fun reg h => ?unmapped⟩
  case pwm => exact decode_frameWord_of_frameInstr_eq_some (frameInstr_pwm k v)
  case ledctl => exact decode_frameWord_of_frameInstr_eq_some (frameInstr_ledctl k v)
  case unmapped => exact decode_frameWord_of_frameInstr_eq_none (frameInstr_eq_none_of_not_mapped h v)
  all_goals exact decode_frameWord_of_frameInstr_eq_some rfl

end Sys2Proof.Encoding
end

section
/-! PROOFS. The sequencing engine (40_engine.md): the microprogram's rows, ACCEPT, ISSUE, WAIT and RESPONSE. -/

namespace Sys2Proof.Engine

open Sys2Proof.Machine

/-! The microprogram (R81, R82). -/

/-- The channel check as bounds (R83). -/
theorem channelOk_iff {c : Byte} : channelOk c = true ↔ 1 ≤ c.toNat ∧ c.toNat ≤ 28 := by
  simp [channelOk]

theorem channelOk_eq_false_iff {c : Byte} : channelOk c = false ↔ c.toNat < 1 ∨ 28 < c.toNat := by
  rw [← Bool.not_eq_true, channelOk_iff]
  omega

/-- No microsequence is longer than POWER_ON's (R82). -/
theorem lastStep_toNat_le (op : Opcode) : (lastStep op).toNat ≤ 31 := by
  cases op <;> decide

/-- Steps 2 to 29 of POWER_ON enable the channels one after another (R81). -/
theorem uop_powerOn_ledctl {p : Params} {n : MicroStep} {ch val : Byte} (h1 : 2 ≤ n.toNat) (h2 : n.toNat ≤ 29) :
    uop p .powerOn n ch val = some (frameWord (BitVec.ofNat 8 (0x2A + (n.toNat - 2))) vEnabled) := by
  rw [← ledctlReg_eq h1 h2, uop, if_neg (by omega), if_neg (by omega), if_pos h2]

/-- Past its last step a command has no row (R81, R82). -/
theorem uop_eq_none {p : Params} {op : Opcode} {n : MicroStep} {ch val : Byte} (h : lastStep op < n) :
    uop p op n ch val = none := by
  have hn := BitVec.lt_def.mp h
  cases op
  case powerOn =>
    have hl : 31 < n.toNat := hn
    rw [uop, if_neg (by omega), if_neg (by omega), if_neg (by omega), if_neg (by omega), if_neg (by omega)]
  case powerOff => exact if_neg (Nat.ne_of_gt hn)
  case setFrequency => exact if_neg (Nat.ne_of_gt hn)
  case setPwm =>
    have hl : 1 < n.toNat := hn
    rw [uop, if_neg (by omega), if_neg (by omega)]

/-- Settles O23: the rows at a fixed step are read off the table; the LedControl and PWM rows compute a register address
without a borrow, and past the last step there is no row. -/
theorem microprogramRows : Obligations.MicroprogramRows := by
  intro p ch val
  refine ⟨rfl, rfl, fun n h2 h29 => ?led, rfl, rfl, rfl, rfl, fun h1 h28 => ?pwm, rfl, fun op n => uop_eq_none⟩
  case led =>
    have hn : (BitVec.ofNat 6 n).toNat = n := by rw [BitVec.toNat_ofNat, Nat.mod_eq_of_lt (by omega)]
    have h := uop_powerOn_ledctl (p := p) (n := BitVec.ofNat 6 n) (ch := ch) (val := val) (by omega) (by omega)
    rwa [hn] at h
  case pwm =>
    rw [← pwmReg_eq h1 h28]
    rfl

/-! What SEQ does in a step, and what it does not. -/

/-- Nothing SEQ does shows between the two states: its registers, the caller's words, its frames and its results are the
same, and BUS holds what it held or the answer to it. -/
structure SeqUntouched (s t : State) : Prop where
  seq : t.seq = s.seq
  commands : t.commands = s.commands
  trace : t.trace = s.trace
  results : t.results = s.results
  bus : t.bus = s.bus ∨ ∃ a, t.bus = .answered a

/-- Every step, seen from SEQ: it is constructed, takes a command, issues a frame, takes an answer, or is not touched. -/
theorem step_seq_cases {s t : State} (h : step s = .next t) :
    (∃ q n rest, s.seq.busy = false ∧ t = { s with seq := q, draws := n, env := rest }) ∨
    (∃ w rest, s.seq.busy = false ∧ s.commands = w :: rest ∧
      exec (decodeCommand w) { s.moving with commands := rest } = .next t) ∨
    (∃ f, s.seq.busy = true ∧ s.seq.pend = false ∧ t = afterIssue s.moving f) ∨
    (∃ a, s.bus = .answered a ∧ respond a s.moving = .next t) ∨
    SeqUntouched s t := by
  have untouched {p q r v u : Prop} (hu : u) : p ∨ q ∨ r ∨ v ∨ u := .inr (.inr (.inr (.inr hu)))
  rcases step_cases h with ⟨d, f, rest, e, -, rfl, -⟩ | ⟨rest, -, rfl⟩ | ⟨a, rest, op, ch, val, st, hb, -, rfl⟩ |
    ⟨w, rest, hb, hc, hx⟩ | ⟨f, hb, hp, -, rfl⟩ | ⟨a, -, -, ha, hx⟩ | ⟨d, f, rest, e, -, -, -, -, rfl, -⟩ |
    ⟨d, f, e, rest, -, -, -, -, rfl⟩ | rfl
  · exact untouched ⟨rfl, rfl, rfl, rfl, .inl rfl⟩
  · exact untouched ⟨rfl, rfl, rfl, rfl, .inl rfl⟩
  · exact .inl ⟨_, _, _, hb, rfl⟩
  · exact .inr (.inl ⟨w, rest, hb, hc, hx⟩)
  · exact .inr (.inr (.inl ⟨f, hb, hp, rfl⟩))
  · exact .inr (.inr (.inr (.inl ⟨a, ha, hx⟩)))
  · exact untouched ⟨rfl, rfl, rfl, rfl, .inr ⟨_, rfl⟩⟩
  · exact untouched ⟨rfl, rfl, rfl, rfl, .inr ⟨_, rfl⟩⟩
  · exact untouched ⟨rfl, rfl, rfl, rfl, .inl rfl⟩

/-- Taking an answer reads no command and presents no frame: BUS is quiet after it (R86, R87). -/
theorem respond_frame {a : BusAnswer} {s t : State} (h : respond a s = .next t) :
    t.commands = s.commands ∧ t.trace = s.trace ∧ t.bus = .quiet := by
  obtain ⟨r, rfl⟩ | ⟨-, rfl⟩ := respond_next h <;> exact ⟨rfl, rfl, rfl⟩

/-- No instruction presents a frame: an ACCEPT and a parameter error happen "before any bus traffic" (R83), and a frame's
meaning is its effect on DEV. -/
theorem exec_presents_nothing {i : Instr} {s t : State} (h : exec i s = .next t) :
    t.trace = s.trace ∧ t.bus = s.bus := by
  obtain ⟨d, rfl⟩ | ⟨-, ⟨op, a, v, n, rfl, -, -⟩ | ⟨c, v, -, -, rfl⟩⟩ := exec_next h <;> exact ⟨rfl, rfl⟩

/-! ACCEPT (R83). -/

/-- The selector of SET_FREQUENCY as one of the two codes (R115). -/
theorem selByte_eq (sel : BitVec 1) : selByte sel = if sel = 1 then 0x01 else 0x00 := by
  revert sel
  decide

/-- An idle SEQ takes a SET_PWM whose channel passes the check. -/
theorem exec_setPwm_accepted {s : State} {c v : Byte} (hb : s.seq.busy = false) (hc : channelOk c = true) :
    exec (.setPwm c v) s = .next (accepted .setPwm c v s) := by
  refine (acceptWhenIdle_idle hb).trans ?_
  rw [if_pos hc]

/-- It ends a SET_PWM whose channel does not (R131). -/
theorem exec_setPwm_paramErr {s : State} {c v : Byte} (hb : s.seq.busy = false) (hc : channelOk c = false) :
    exec (.setPwm c v) s = .next (endCommand .paramErr s) := by
  refine (acceptWhenIdle_idle hb).trans ?_
  rw [hc]
  rfl

/-- A busy SEQ takes no command word, whatever the event (D21). -/
theorem step_busy_commands {s t : State} (hb : s.seq.busy = true) (h : step s = .next t) :
    t.commands = s.commands := by
  rcases step_seq_cases h with ⟨_, _, _, hi, -⟩ | ⟨_, _, hi, -⟩ | ⟨f, -, -, rfl⟩ | ⟨a, -, hx⟩ | hu
  · rw [hb] at hi; cases hi
  · rw [hb] at hi; cases hi
  · rfl
  · exact (respond_frame hx).1
  · exact hu.commands

/-- Settles O24: each command is its ACCEPT on an idle SEQ, with the channel check for SET_PWM; of the steps of a busy SEQ
none takes a word. -/
theorem idleSeqAcceptsCommands : Obligations.IdleSeqAcceptsCommands := by
  refine ⟨fun s hb => ⟨?powerOn, ?powerOff, ?setFrequency, ?setPwm, ?badChannel⟩, fun s t => step_busy_commands⟩
  case powerOn => exact fun a b => ⟨_, acceptWhenIdle_idle hb, rfl⟩
  case powerOff => exact fun a b => ⟨_, acceptWhenIdle_idle hb, rfl⟩
  case setFrequency =>
    intro a rsv sel
    rw [← selByte_eq]
    exact acceptWhenIdle_idle hb
  case setPwm => exact fun c v h1 h28 => exec_setPwm_accepted hb (channelOk_iff.mpr ⟨h1, h28⟩)
  case badChannel =>
    exact fun c v h => ⟨_, exec_setPwm_paramErr hb (channelOk_eq_false_iff.mpr h), rfl, rfl, rfl, rfl⟩

/-! ISSUE (R84). -/

/-- A step other than ISSUE leaves the trace as it is, and puts no frame on the bus. -/
theorem step_presents_only_by_issue {s t : State} (h : step s = .next t) :
    (s.seq.busy = true ∧ s.seq.pend = false) ∨ t.trace = s.trace ∧ (t.bus = s.bus ∨ t.busWrite = none) := by
  rcases step_seq_cases h with ⟨q, n, rest, -, rfl⟩ | ⟨w, rest, -, -, hx⟩ | ⟨f, hb, hp, -⟩ | ⟨a, -, hx⟩ | hu
  · exact .inr ⟨rfl, .inl rfl⟩
  · obtain ⟨ht, hbus⟩ := exec_presents_nothing hx
    exact .inr ⟨ht, .inl hbus⟩
  · exact .inl ⟨hb, hp⟩
  · obtain ⟨-, ht, hq⟩ := respond_frame hx
    exact .inr ⟨ht, .inr (by rw [State.busWrite, hq])⟩
  · exact .inr ⟨hu.trace, hu.bus.imp_right fun ⟨a, ha⟩ => by rw [State.busWrite, ha]⟩

/-- Settles O27: ISSUE as a step, and no other step presents a frame. -/
theorem issuePresentsOneFrame : Obligations.IssuePresentsOneFrame := by
  refine ⟨fun s f => step_issue, fun s t h hne => ?_⟩
  rcases step_presents_only_by_issue h with hi | ⟨ht, hbus⟩
  · exact hi
  · rcases hne with hne | ⟨hne, hw⟩
    · exact absurd ht hne
    · exact absurd hbus (not_or.mpr ⟨hne, hw⟩)

/-! WAIT (R85). -/

/-- While its frame is on the way no event touches SEQ. -/
theorem step_waiting_untouched {s t : State} {d : BusAddr} {f : FrameWord} (hb : s.seq.busy = true)
    (hp : s.seq.pend = true) (hc : s.bus = .carrying d f) (h : step s = .next t) : SeqUntouched s t := by
  rcases step_seq_cases h with ⟨_, _, _, hi, -⟩ | ⟨_, _, hi, -⟩ | ⟨_, -, hi, -⟩ | ⟨a, ha, -⟩ | hu
  · rw [hb] at hi; cases hi
  · rw [hb] at hi; cases hi
  · rw [hp] at hi; cases hi
  · rw [hc] at ha; cases ha
  · exact hu

/-- Where no event of the outside world comes, a SEQ whose frame is on the way stays as it is. -/
theorem step_waiting_fixed {s : State} {d : BusAddr} {f : FrameWord} (hb : s.seq.busy = true)
    (hp : s.seq.pend = true) (hc : s.bus = .carrying d f) (he : s.env = []) : step s = .next s := by
  apply step_event
  rw [← seqMove_wait hb hp hc]
  simp only [fetch, he]

/-- Settles O28: no event touches a waiting SEQ, and with nothing to come the state is a fixed point of every run. -/
theorem unansweredFrameWaitsForEver : Obligations.UnansweredFrameWaitsForEver := by
  refine ⟨fun s t d f hb hp hc h => ?_, fun s d f n hb hp hc he => runSteps_fixed (step_waiting_fixed hb hp hc he) n⟩
  obtain ⟨hseq, hcommands, htrace, hresults, -⟩ := step_waiting_untouched hb hp hc h
  exact ⟨hseq, hcommands, htrace, hresults⟩

/-! RESPONSE (R86, R87). -/

/-- Before the last step of a command the step counter is below 31, so it has room to advance (R86). -/
theorem step_toNat_lt {q : Seq} (h : OperandsOk q) (hne : q.step ≠ lastStep q.op) : q.step.toNat < 31 := by
  obtain ⟨hle, -, -⟩ := h
  have hlt : q.step.toNat < (lastStep q.op).toNat :=
    Nat.lt_of_le_of_ne (BitVec.le_def.mp hle) fun he => hne (BitVec.eq_of_toNat_eq he)
  have := lastStep_toNat_le q.op
  omega

/-- The step counter advances without a wrap. -/
theorem microStep_succ_toNat {n : MicroStep} (h : n.toNat < 31) : (n + 1).toNat = n.toNat + 1 :=
  BitVec.toNat_add_of_lt (Nat.lt_trans (Nat.succ_lt_succ h) (by decide))

/-- Settles O30: the response to `ok`, as a step, at the last step and before it; there the engine's invariant bounds the
step counter. -/
theorem responseOkAdvancesOrEnds : Obligations.ResponseOkAdvancesOrEnds := by
  intro s hb hp ha hx
  refine ⟨fun hs => ?_, fun hs => ?_, fun hok hs => ?_⟩
  · rw [step_respond hb hp hx ha, respond_ok_last (s := s.moving) hs]
    rfl
  · rw [step_respond hb hp hx ha, respond_ok_more (s := s.moving) hs]
    rfl
  · obtain ⟨-, hops, -, -⟩ := hok
    have hlt := step_toNat_lt (hops hb) hs
    exact ⟨hlt, microStep_succ_toNat hlt⟩

/-- Settles O31: the response to a failure, as a step. -/
theorem responseFailEndsCommand : Obligations.ResponseFailEndsCommand := by
  intro s e hb hp ha hx
  rw [step_respond hb hp hx ha, respond_fail]
  rfl

end Sys2Proof.Engine
end

section
/-! PROOFS. The exceptions (60_exceptions.md): what ends in PARAM_ERR, and what does not (R131). -/

namespace Sys2Proof.Exceptions

open Sys2Proof.Machine Sys2Proof.Engine

/-- A command that ends before it was accepted leaves its result and nothing else: `busy` and `pend` are down already. -/
theorem endCommand_of_idle {s : State} (h : Idle s) (r : Result) :
    endCommand r s = { s with results := s.results ++ [r] } := by
  obtain ⟨hb, hp, -⟩ := h
  have hseq : { s.seq with busy := false, pend := false } = s.seq :=
    congrArg₂ (fun b p => { s.seq with busy := b, pend := p }) hb.symm hp.symm
  rw [endCommand, hseq]
  rfl

/-- Taking an answer reports no parameter error: a result it gives is that of the answer (R86, R87). -/
theorem respond_not_paramErr {a : BusAnswer} {s t : State} (h : respond a s = .next t) :
    t.results ≠ s.results ++ [.paramErr] := by
  cases a with
  | fail e =>
    rw [respond_fail] at h
    cases h
    simp
  | ok =>
    by_cases hs : s.seq.step = lastStep s.seq.op
    · rw [respond_ok_last hs] at h
      cases h
      simp
    · rw [respond_ok_more hs] at h
      cases h
      simp

/-- Of the instructions SET_PWM alone reports a parameter error, for a channel that fails the check (R83, R131). -/
theorem exec_paramErr_only_setPwm {i : Instr} {s t : State} (h : exec i s = .next t)
    (hr : t.results = s.results ++ [.paramErr]) : ∃ c v, i = .setPwm c v ∧ channelOk c = false := by
  obtain ⟨d, rfl⟩ | ⟨-, ⟨op, a, v, n, rfl, -, -⟩ | ⟨c, v, hi, hc, -⟩⟩ := exec_next h
  · simp at hr
  · simp at hr
  · exact ⟨c, v, hi, hc⟩

/-- A step reports a parameter error only where an idle SEQ takes a SET_PWM word whose channel fails the check. -/
theorem step_paramErr_only_setPwm {s t : State} (h : step s = .next t) (hr : t.results = s.results ++ [.paramErr]) :
    s.seq.busy = false ∧
      ∃ w rest c v, s.commands = w :: rest ∧ decodeCommand w = .setPwm c v ∧ channelOk c = false := by
  rcases step_seq_cases h with ⟨q, n, rest, -, rfl⟩ | ⟨w, rest, hb, hw, hx⟩ | ⟨f, -, -, rfl⟩ | ⟨a, -, hx⟩ | hu
  · simp at hr
  · obtain ⟨c, v, hi, hc⟩ := exec_paramErr_only_setPwm hx hr
    exact ⟨hb, w, rest, c, v, hw, hi, hc⟩
  · simp [afterIssue] at hr
  · exact (respond_not_paramErr hx hr).elim
  · simp [hu.results] at hr

/-- Settles O26: SET_PWM with a channel that fails the check ends an idle SEQ's command at once; of the steps that one
alone reports a parameter error. -/
theorem parameterErrorOnlyForBadChannel : Obligations.ParameterErrorOnlyForBadChannel := by
  refine ⟨fun s c v hi hc => ?_, rfl, rfl, fun s t h hr => ?_⟩
  · have ⟨hb, _⟩ := hi
    rw [exec_setPwm_paramErr hb (channelOk_eq_false_iff.mpr hc), endCommand_of_idle hi]
  · obtain ⟨hb, w, rest, c, v, hw, hd, hc⟩ := step_paramErr_only_setPwm h hr
    exact ⟨hb, w, rest, c, v, hw, congrArg Except.ok hd, channelOk_eq_false_iff.mp hc⟩

end Sys2Proof.Exceptions
end

section
/-! PROOFS. Decode and encode are inverse (R60, R62, R66, R67). -/

namespace Sys2Proof.Encoding

/-- A command word decodes by its opcode, the operand bytes whole (R62). -/
theorem decodeCommand_cmdWord_powerOn (a b : Byte) : decodeCommand (cmdWord 0b00#2 a b) = .powerOn a b := by
  simp [decodeCommand]

theorem decodeCommand_cmdWord_powerOff (a b : Byte) : decodeCommand (cmdWord 0b01#2 a b) = .powerOff a b := by
  simp [decodeCommand]

theorem decodeCommand_cmdWord_setFrequency (a b : Byte) :
    decodeCommand (cmdWord 0b10#2 a b) = .setFrequency a (b.extractLsb' 1 7) (b.extractLsb' 0 1) := by
  simp [decodeCommand]

theorem decodeCommand_cmdWord_setPwm (c v : Byte) : decodeCommand (cmdWord 0b11#2 c v) = .setPwm c v := by
  simp [decodeCommand]

/-- Operand B of SET_FREQUENCY splits into the fields it was put together from, and is put together from them (R63). -/
theorem rsv_of_append (rsv : BitVec 7) (sel : BitVec 1) : (rsv ++ sel : Byte).extractLsb' 1 7 = rsv := by
  apply BitVec.eq_of_toNat_eq
  rw [BitVec.extractLsb'_toNat, selByte_toNat, Nat.shiftRight_eq_div_pow]
  omega

theorem sel_of_append (rsv : BitVec 7) (sel : BitVec 1) : (rsv ++ sel : Byte).extractLsb' 0 1 = sel := by
  apply BitVec.eq_of_toNat_eq
  rw [BitVec.extractLsb'_toNat, selByte_toNat, Nat.shiftRight_eq_div_pow]
  omega

theorem append_rsv_sel (b : Byte) : (b.extractLsb' 1 7 ++ b.extractLsb' 0 1 : Byte) = b := by
  apply BitVec.eq_of_toNat_eq
  rw [selByte_toNat, BitVec.extractLsb'_toNat, BitVec.extractLsb'_toNat, Nat.shiftRight_eq_div_pow,
    Nat.shiftRight_eq_div_pow]
  omega

/-- Settles O7: a command word is read back field by field; a frame word through the register map. -/
theorem decodeOfEncode : Obligations.DecodeOfEncode := by
  intro i
  cases i
  case powerOn a b => exact congrArg Except.ok (decodeCommand_cmdWord_powerOn a b)
  case powerOff a b => exact congrArg Except.ok (decodeCommand_cmdWord_powerOff a b)
  case setFrequency a rsv sel =>
    refine congrArg Except.ok ((decodeCommand_cmdWord_setFrequency a (rsv ++ sel)).trans ?_)
    rw [rsv_of_append, sel_of_append]
  case setPwm c v => exact congrArg Except.ok (decodeCommand_cmdWord_setPwm c v)
  all_goals exact decode_frameWord_of_frameInstr_eq_some rfl

/-- The word of a decoded command word, opcode by opcode (R62). -/
theorem encode_decodeCommand (w : CmdWord) : encode (decodeCommand w) = .cmd18 w := by
  have hw := cmdWord_fields w
  unfold decodeCommand
  split
  case h_3 h => rw [encode, append_rsv_sel, ← h, hw]
  all_goals
    next h => rw [encode, ← h, hw]

/-- Settles O8: a command word is its three fields, a frame word its two. -/
theorem encodeOfDecode : Obligations.EncodeOfDecode := by
  intro r i h
  cases r with
  | cmd18 w =>
    cases h
    exact encode_decodeCommand w
  | bus16 f => rw [frameInstr_encode (decode_bus16 h), frameWord_fields]

/-- Settles O5: closed words, by evaluation. -/
theorem writtenWordsDecode : Obligations.WrittenWordsDecode := by
  exact ⟨rfl, rfl, rfl, rfl, rfl, rfl, rfl, rfl, rfl, rfl⟩

/-- Settles O9: the words of fixed operands by evaluation, those of `set_pwm(c, v)` from the word as a number. -/
theorem spellingsHaveTheirWords : Obligations.SpellingsHaveTheirWords := by
  refine ⟨rfl, rfl, rfl, rfl, fun c v => congrArg Raw.cmd18 (BitVec.eq_of_toNat_eq ?_)⟩
  have hop : (0b11#2).toNat = 3 := rfl
  rw [cmdWord_toNat, hop, BitVec.toNat_ofNat]
  omega

end Sys2Proof.Encoding
end

section
/-! PROOFS. The invariant of the engine: every event keeps it, and on an exclusive bus it leads to a next state. -/

namespace Sys2Proof.Invariant

open Sys2Proof.Machine Sys2Proof.Engine

/-! States that meet the invariant. -/

/-- The invariant speaks of SEQ, BUS and the parameters alone. -/
theorem engineOk_congr {s t : State} (hq : t.seq = s.seq) (hb : t.bus = s.bus) (hp : t.params = s.params)
    (h : EngineOk s) : EngineOk t := by
  simpa only [EngineOk, hq, hb, hp] using h

/-- An idle SEQ meets it, whatever its operands hold. -/
theorem engineOk_of_idle {s : State} (h : Idle s) : EngineOk s := by
  obtain ⟨hb, hp, hq⟩ := h
  simp [EngineOk, hb, hp, hq]

/-- Where no command is in progress, the invariant is `Idle`. -/
theorem idle_of_engineOk {s : State} (h : EngineOk s) (hb : s.seq.busy = false) : Idle s := by
  obtain ⟨hpend, -, hquiet, -⟩ := h
  have hp : s.seq.pend = false := Bool.eq_false_of_not_eq_true fun hp => by simp [hpend hp] at hb
  exact ⟨hb, hp, hquiet.mp hp⟩

/-- A command in progress between two frames meets it, where its operands are in range. -/
theorem engineOk_between {s : State} (hp : s.seq.pend = false) (hq : s.bus = .quiet) (ho : OperandsOk s.seq) :
    EngineOk s := by
  simp [EngineOk, hp, hq, ho]

/-- The step of ISSUE keeps it: BUS carries the frame of the step (R84). -/
theorem engineOk_afterIssue {s : State} {f : FrameWord} (hb : s.seq.busy = true) (ho : OperandsOk s.seq)
    (hu : uop s.params s.seq.op s.seq.step s.seq.ch s.seq.val = some f) : EngineOk (afterIssue s f) := by
  refine ⟨fun _ => hb, fun _ => ho, by simp [afterIssue], fun d g hc => ?_⟩
  cases hc
  exact ⟨rfl, hu⟩

/-- BUS's answer keeps it. -/
theorem engineOk_gotAnswer {s : State} (h : EngineOk s) (hp : s.seq.pend = true) (a : BusAnswer)
    (rest : List EnvEvent) : EngineOk (s.gotAnswer a rest) := by
  obtain ⟨hpend, hops, -, -⟩ := h
  exact ⟨hpend, hops, by simp [hp], nofun⟩

/-- Advancing the step counter before the last step keeps the operands in range (R86). -/
theorem operandsOk_succ {q : Seq} (h : OperandsOk q) (hne : q.step ≠ lastStep q.op) :
    OperandsOk { q with pend := false, step := q.step + 1 } := by
  obtain ⟨hle, hch, hval⟩ := h
  have hsucc := microStep_succ_toNat (step_toNat_lt ⟨hle, hch, hval⟩ hne)
  have hne' : q.step.toNat ≠ (lastStep q.op).toNat := fun he => hne (BitVec.eq_of_toNat_eq he)
  have hle' := BitVec.le_def.mp hle
  exact ⟨BitVec.le_def.mpr (by simp only [hsucc]; omega), hch, hval⟩

/-- Taking an answer keeps it: the command goes on, or SEQ is idle (R86, R87). -/
theorem respond_keeps_engineOk {a : BusAnswer} {s t : State} (hb : s.seq.busy = true) (h : EngineOk s)
    (ht : respond a s = .next t) : EngineOk t := by
  obtain ⟨r, rfl⟩ | ⟨hne, rfl⟩ := respond_next ht
  · exact engineOk_of_idle ⟨rfl, rfl, rfl⟩
  · obtain ⟨-, hops, -, -⟩ := h
    exact engineOk_between rfl rfl (operandsOk_succ (hops hb) hne)

/-- Every instruction keeps it: of SEQ, only an idle one is changed, by ACCEPT or a parameter error (R83). -/
theorem exec_keeps_engineOk {i : Instr} {s t : State} (h : EngineOk s) (ht : exec i s = .next t) : EngineOk t := by
  obtain ⟨d, rfl⟩ | ⟨hb, ⟨op, a, v, n, rfl, hch, hval⟩ | ⟨c, v, -, -, rfl⟩⟩ := exec_next ht
  · exact engineOk_congr rfl rfl rfl h
  · obtain ⟨-, -, hq⟩ := idle_of_engineOk h hb
    exact engineOk_between rfl hq ⟨BitVec.le_def.mpr (Nat.zero_le _), hch, hval⟩
  · obtain ⟨-, -, hq⟩ := idle_of_engineOk h hb
    exact engineOk_of_idle ⟨rfl, rfl, hq⟩

/-- Settles O41: each event of `step_cases` keeps the invariant. -/
theorem stepKeepsEngineInvariant : Obligations.StepKeepsEngineInvariant := by
  intro s t h ht
  have hmv : EngineOk s.moving := engineOk_congr rfl rfl rfl h
  rcases step_cases ht with ⟨_, _, _, _, -, rfl, -⟩ | ⟨_, -, rfl⟩ | ⟨_, _, _, _, _, _, hb, -, rfl⟩ |
    ⟨w, rest, -, -, hx⟩ | ⟨f, hb, -, hu, rfl⟩ | ⟨a, hb, -, -, hx⟩ | ⟨_, _, rest, _, -, hp, -, -, rfl, -⟩ |
    ⟨_, _, e, rest, -, hp, -, -, rfl⟩ | rfl
  · exact engineOk_congr rfl rfl rfl h
  · exact engineOk_congr rfl rfl rfl h
  · obtain ⟨-, -, hq⟩ := idle_of_engineOk h hb
    exact engineOk_of_idle ⟨rfl, rfl, hq⟩
  · exact exec_keeps_engineOk (s := { s.moving with commands := rest }) (engineOk_congr rfl rfl rfl h) hx
  · obtain ⟨-, hops, -, -⟩ := h
    exact engineOk_afterIssue (s := s.moving) hb (hops hb) hu
  · exact respond_keeps_engineOk (s := s.moving) hb hmv hx
  · exact engineOk_congr (s := s.gotAnswer .ok rest) rfl rfl rfl (engineOk_gotAnswer h hp _ _)
  · exact engineOk_gotAnswer h hp _ _
  · exact hmv

/-- Settles O42: reset leaves SEQ idle. -/
theorem resetMeetsEngineInvariant : Obligations.ResetMeetsEngineInvariant :=
  engineOk_of_idle ⟨rfl, rfl, rfl⟩

/-! Progress. -/

/-- The meaning of a command word: a SEQ that is idle takes it to the state `u`, in which DEV is as it was (R83). -/
theorem exec_decodeCommand (w : CmdWord) :
    ∃ u : State → State, (∀ s, exec (decodeCommand w) s = acceptWhenIdle (u s) s) ∧
      ∀ s d, u (s.setDev d) = (u s).setDev d := by
  unfold decodeCommand
  split
  case h_4 => exact ⟨_, fun _ => rfl, fun s d => by split <;> rfl⟩
  all_goals exact ⟨_, fun _ => rfl, fun _ _ => rfl⟩

/-- A command presented to a busy SEQ changes nothing (D21). -/
theorem acceptWhenIdle_busy {u s : State} (h : s.seq.busy = true) : acceptWhenIdle u s = .next s :=
  acceptWhenIdle_next.mpr (.inl ⟨h, rfl⟩)

/-- A command word always runs to a next state. -/
theorem exec_decodeCommand_total (w : CmdWord) (s : State) : ∃ t, exec (decodeCommand w) s = .next t := by
  have total (u : State) : ∃ t, acceptWhenIdle u s = .next t := by
    cases hb : s.seq.busy
    · exact ⟨u, acceptWhenIdle_idle hb⟩
    · exact ⟨s, acceptWhenIdle_busy hb⟩
  obtain ⟨u, hx, -⟩ := exec_decodeCommand w
  exact hx s ▸ total (u s)

/-- SEQ always takes an answer. -/
theorem respond_total (a : BusAnswer) (s : State) : ∃ t, respond a s = .next t := by
  cases a with
  | fail e => exact ⟨_, respond_fail e s⟩
  | ok =>
    by_cases hs : s.seq.step = lastStep s.seq.op
    · exact ⟨_, respond_ok_last hs⟩
    · exact ⟨_, respond_ok_more hs⟩

/-- DEV, or another device, takes every frame BUS carries for SEQ. -/
theorem seqDelivers_of_engineOk {s : State} {d : BusAddr} {f : FrameWord} (h : EngineOk s) (hb : s.seq.busy = true)
    (hc : s.bus = .carrying d f) : d = s.seq.address ∧ ∃ e, SeqDelivers s f e := by
  obtain ⟨-, hops, -, hcarry⟩ := h
  obtain ⟨hd, hu⟩ := hcarry d f hc
  refine ⟨hd, ?_⟩
  by_cases ha : s.seq.address = s.params.strap
  · obtain ⟨e, he⟩ := uop_delivers (hops hb) hu s.dev
    exact ⟨e, .inl ⟨ha, he⟩⟩
  · exact ⟨s.dev, .inr ⟨ha, rfl⟩⟩

/-- From a state that meets the invariant a step has a next state, unless a foreign frame for DEV or a CONSTRUCT while
busy is next. -/
theorem step_total {s : State} (h : EngineOk s) (hf : ¬ ForeignFrameNext s)
    (hn : s.seq.busy = true → ∀ a rest, s.env ≠ .construct a :: rest) : ∃ t, step s = .next t := by
  rcases fetch_cases s with ⟨d, f, rest, he, hx⟩ | ⟨rest, he, hx⟩ | ⟨a, rest, he, hx⟩ | ⟨w, rest, -, -, hx⟩ |
    ⟨hb, -, hx⟩ | ⟨a, -, -, -, hx⟩ | ⟨d, f, rest, hb, hp, hc, he, -⟩ | ⟨d, f, e, rest, -, -, -, -, hx⟩ | hx
  · have hd : d ≠ s.params.strap := fun hd => hf ⟨f, rest, hd ▸ he⟩
    exact ⟨_, step_event (hx.trans (if_neg hd))⟩
  · exact ⟨_, step_event hx⟩
  · have hb : s.seq.busy = false := Bool.eq_false_of_not_eq_true fun hb => hn hb a rest he
    exact ⟨_, (step_event hx).trans (if_neg (by simp [hb]))⟩
  · rw [step_word hx rfl]
    exact exec_decodeCommand_total w _
  · obtain ⟨-, hops, -, -⟩ := h
    obtain ⟨hle, -, -⟩ := hops hb
    obtain ⟨f, hu⟩ := uop_defined (p := s.params) hle
    exact ⟨_, (step_event hx).trans (issue_next.mpr ⟨f, hu, rfl⟩)⟩
  · rw [step_event hx]
    exact respond_total a _
  · obtain ⟨rfl, e, hd⟩ := seqDelivers_of_engineOk h hb hc
    exact ⟨_, step_delivered hb hp hc he hd⟩
  · exact ⟨_, step_event hx⟩
  · exact ⟨_, step_event hx⟩

/-- No event adds to what the outside world still does: it takes the first event away, or nothing. -/
theorem step_env_suffix {s t : State} (h : step s = .next t) : t.env <:+ s.env := by
  have tail {e : EnvEvent} {rest : List EnvEvent} (he : s.env = e :: rest) : rest <:+ s.env :=
    he ▸ List.suffix_cons e rest
  have moved : s.moving.env <:+ s.env := by
    rw [State.moving_env]
    unfold afterMove
    split
    · next he => exact tail he
    · exact List.suffix_refl _
  rcases step_cases h with ⟨_, _, _, _, he, rfl, -⟩ | ⟨_, he, rfl⟩ | ⟨_, _, _, _, _, _, -, he, rfl⟩ |
    ⟨w, rest, -, -, hx⟩ | ⟨f, -, -, -, rfl⟩ | ⟨a, -, -, -, hx⟩ | ⟨_, _, _, _, -, -, -, he, rfl, -⟩ |
    ⟨_, _, _, _, -, -, -, he, rfl⟩ | rfl
  · exact tail he
  · exact tail he
  · exact tail he
  · obtain ⟨d, rfl⟩ | ⟨-, ⟨op, a, v, n, rfl, -, -⟩ | ⟨c, v, -, -, rfl⟩⟩ := exec_next hx <;> exact moved
  · exact moved
  · obtain ⟨r, rfl⟩ | ⟨-, rfl⟩ := respond_next hx <;> exact moved
  · exact tail he
  · exact tail he
  · exact moved

/-- Settles O43: progress, then preservation. -/
theorem exclusiveBusNeverStops : Obligations.ExclusiveBusNeverStops := by
  intro s h hf hn
  obtain ⟨t, ht⟩ := step_total h hf hn
  exact ⟨t, ht, stepKeepsEngineInvariant s t h ht, fun ho e he => ho e ((step_env_suffix ht).subset he)⟩

end Sys2Proof.Invariant
end

section
/-! PROOFS. What single events do: which word a step runs, what it refuses, CONSTRUCT and DEV's power-on. -/

namespace Sys2Proof.Events

open Sys2Proof.Machine Sys2Proof.Encoding Sys2Proof.Invariant Sys2Proof.Claims

/-! The event at the head of `env`. -/

theorem fetch_foreign {s : State} {d : BusAddr} {f : FrameWord} {rest : List EnvEvent}
    (he : s.env = .foreign d f :: rest) : fetch s = deliver d f { s with env := rest } := by
  simp only [fetch, he]

theorem fetch_construct {s : State} {a : BusAddr} {rest : List EnvEvent} (he : s.env = .construct a :: rest) :
    fetch s = .event (construct a { s with env := rest }) := by
  simp only [fetch, he]

theorem fetch_devPowerOn {s : State} {rest : List EnvEvent} (he : s.env = .devPowerOn :: rest) :
    fetch s = .event (commitDev (devDefaults s.params) { s with env := rest }) := by
  simp only [fetch, he]

theorem fetch_later {s : State} {rest : List EnvEvent} (he : s.env = .later :: rest) :
    fetch s = seqMove { s with env := rest } := by
  simp only [fetch, he]

theorem fetch_nil {s : State} (he : s.env = []) : fetch s = seqMove s := by
  simp only [fetch, he]

/-- An idle SEQ takes the next command word where nothing of the outside world comes first. -/
theorem fetch_command {s : State} {w : CmdWord} {rest : List CmdWord} (hb : s.seq.busy = false) (hx : Calm s.env)
    (hc : s.commands = w :: rest) : fetch s = .word (.cmd18 w) { s.moving with commands := rest } := by
  rw [fetch_seqMove hx fun _ _ _ => by simp [hb], seqMove_command (s := s.moving) hb hc]

/-- A frame for DEV's own address arrives there; one for another address does not (R176). -/
theorem deliver_own {a : BusAddr} {f : FrameWord} {s : State} (h : a = s.params.strap) :
    deliver a f s = .word (.bus16 f) s :=
  if_pos h

theorem deliver_other {a : BusAddr} {f : FrameWord} {s : State} (h : a ≠ s.params.strap) :
    deliver a f s = .event (.next s) :=
  if_neg h

/-- CONSTRUCT while a command is in progress, and of an idle SEQ (R95, R161). -/
theorem construct_busy {a : BusAddr} {s : State} (h : s.seq.busy = true) :
    construct a s = .refused .resetWhileBusy :=
  if_pos h

theorem construct_idle {a : BusAddr} {s : State} (h : s.seq.busy = false) :
    construct a s = .next ((s.setSeq
      { address := a, busy := false, pend := false
        op := opcodeOfBits (Config.freeBits 2 s.draws), ch := Config.freeBits 8 (s.draws + 1)
        val := Config.freeBits 8 (s.draws + 2), step := Config.freeBits 6 (s.draws + 3) }).drew 4) :=
  if_neg (by simp [h])

/-- Settles O10: the three ways a word reaches the decoder, each with the state it runs in. -/
theorem stepRunsDecodedInstruction : Obligations.StepRunsDecodedInstruction := by
  refine ⟨fun s w rest i hb hx hc => ?command, fun s f rest i he => ?foreign, fun s f rest i hb hp hc he => ?own⟩
  case command => exact step_word (fetch_command hb hx hc)
  case foreign => exact step_word ((fetch_foreign he).trans (deliver_own (s := { s with env := rest }) rfl))
  case own => exact step_word ((fetch_answer hb hp hc he).trans (deliver_own (s := s.gotAnswer .ok rest) rfl))

/-- Settles O11: the frame arrives at DEV and stands for no instruction. -/
theorem unmappedFrameRefused : Obligations.UnmappedFrameRefused := by
  intro s reg v rest he hm
  have hf : fetch s = .word (.bus16 (frameWord reg v)) { s with env := rest } :=
    (fetch_foreign he).trans (deliver_own (s := { s with env := rest }) rfl)
  have hd := decode_frameWord_of_frameInstr_eq_none (frameInstr_eq_none_of_not_mapped hm v)
  simp only [step, hf, hd, undecodable]

/-- Settles O12: the frame, another actor's or SEQ's own, does not arrive at DEV. -/
theorem frameForAnotherDeviceLeavesDev : Obligations.FrameForAnotherDeviceLeavesDev := by
  refine ⟨fun s d f rest he hd => ?foreign, fun s d f rest hb hp hc he hd => ?own⟩
  case foreign => exact step_event ((fetch_foreign he).trans (deliver_other (s := { s with env := rest }) hd))
  case own => exact step_event ((fetch_answer hb hp hc he).trans (deliver_other (s := s.gotAnswer .ok rest) hd))

/-- Settles O29: `step_failed`, with the state written out. -/
theorem failedFrameLeavesDev : Obligations.FailedFrameLeavesDev :=
  fun _ _ _ _ _ hb hp hc he => step_failed hb hp hc he

/-- Settles O3: CONSTRUCT of an idle SEQ replaces SEQ's registers and draws their unspecified values. -/
theorem constructLoadsAddressSilently : Obligations.ConstructLoadsAddressSilently := by
  intro s a rest he hb
  have ht := (step_event (fetch_construct he)).trans (construct_idle (s := { s with env := rest }) hb)
  exact ⟨_, ht, rfl, rfl, rfl, rfl⟩

/-- Settles O4: the first branch of CONSTRUCT. -/
theorem constructWhileBusyRefused : Obligations.ConstructWhileBusyRefused := by
  intro s a rest he hb
  exact (step_event (fetch_construct he)).trans (construct_busy (s := { s with env := rest }) hb)

/-- Settles O25: every command word is presented through `acceptWhenIdle`, which leaves a busy SEQ alone. -/
theorem busySeqAcceptsNothing : Obligations.BusySeqAcceptsNothing := by
  intro s w i hb hd
  cases hd
  obtain ⟨u, hx, -⟩ := exec_decodeCommand w
  exact (hx s).trans (acceptWhenIdle_busy hb)

/-- Settles O32: the codes are read off the table; none of them is 11. -/
theorem resultCodes : Obligations.ResultCodes := by
  refine ⟨rfl, rfl, fun _ => rfl, fun _ => rfl, fun r => ?_⟩
  cases r <;> simp [Result.status]

/-! DEV's defaults (R26). -/

/-- DEV just powered on: every PWM and LedControl byte is zero in both copies, every channel is off. -/
theorem devDefaults_dark (p : Params) (k : Fin 28) :
    (devDefaults p).pwmStaged[k] = 0x00 ∧ (devDefaults p).pwmActive[k] = 0x00 ∧
    (devDefaults p).ledStaged[k] = 0x00 ∧ (devDefaults p).ledActive[k] = 0x00 ∧
    (devDefaults p).visible k = some .off := by
  have hled : (devDefaults p).ledActive[k] = vDisabled := by simp
  exact ⟨by simp, by simp, by simp, hled, Dev.visible_shutdown rfl (.inl hled)⟩

/-- Settles O1: SEQ is idle by definition, and DEV holds its defaults. -/
theorem resetLeavesSeqIdleAndDevDark : Obligations.ResetLeavesSeqIdleAndDevDark :=
  ⟨⟨rfl, rfl, rfl⟩, rfl, rfl, rfl, devDefaults_mode State.reset.params, devDefaults_dark State.reset.params, rfl, rfl⟩

/-- Settles O2: the event is `devDefaults`, and nothing but DEV and `env` changes. -/
theorem devPowerOnGivesDefaults : Obligations.DevPowerOnGivesDefaults :=
  fun s _ he => ⟨_, step_event (fetch_devPowerOn he), rfl, rfl, devDefaults_dark s.params, rfl, rfl⟩

end Sys2Proof.Events
end

section
/-! PROOFS. What no step does: what each register of the machine changes by, read off `step_cases`. -/

namespace Sys2Proof.Safety

open Sys2Proof.Machine Sys2Proof.Engine Sys2Proof.Invariant

/-- An instruction changes neither the address nor the parameters: CONSTRUCT is no instruction (R10). -/
theorem exec_keeps_address_params {i : Instr} {s t : State} (h : exec i s = .next t) :
    t.seq.address = s.seq.address ∧ t.params = s.params := by
  obtain ⟨d, rfl⟩ | ⟨-, ⟨op, a, v, n, rfl, -, -⟩ | ⟨c, v, -, -, rfl⟩⟩ := exec_next h <;> exact ⟨rfl, rfl⟩

/-- Taking an answer changes neither, nor DEV. -/
theorem respond_keeps {a : BusAnswer} {s t : State} (h : respond a s = .next t) :
    t.seq.address = s.seq.address ∧ t.params = s.params ∧ t.dev = s.dev := by
  obtain ⟨r, rfl⟩ | ⟨-, rfl⟩ := respond_next h <;> exact ⟨rfl, rfl, rfl⟩

/-- A command word leaves DEV as it was: it is sent to SEQ (R83). -/
theorem exec_decodeCommand_dev {w : CmdWord} {s t : State} (h : exec (decodeCommand w) s = .next t) :
    t.dev = s.dev := by
  obtain ⟨u, hx, hu⟩ := exec_decodeCommand w
  rw [hx] at h
  obtain ⟨-, rfl⟩ | ⟨-, rfl⟩ := acceptWhenIdle_next.mp h
  · rfl
  · have hdev : u s = (u s).setDev s.dev := hu s s.dev
    rw [hdev, State.setDev_dev]

/-- Settles O46: of the events of `step_cases` CONSTRUCT alone writes the address, and none the parameters. -/
theorem addressChangesByConstructOnly : Obligations.AddressChangesByConstructOnly := by
  intro s t h
  rcases step_cases h with ⟨_, _, _, _, -, rfl, -⟩ | ⟨_, -, rfl⟩ | ⟨a, rest, _, _, _, _, -, he, rfl⟩ |
    ⟨_, _, -, -, hx⟩ | ⟨_, -, -, -, rfl⟩ | ⟨_, -, -, -, hx⟩ | ⟨_, _, _, _, -, -, -, -, rfl, -⟩ |
    ⟨_, _, _, _, -, -, -, -, rfl⟩ | rfl
  case inr.inr.inl => exact ⟨rfl, .inr ⟨rest, he⟩⟩
  case inr.inr.inr.inl =>
    obtain ⟨ha, hp⟩ := exec_keeps_address_params hx
    exact ⟨hp, .inl ha⟩
  case inr.inr.inr.inr.inr.inl =>
    obtain ⟨ha, hp, -⟩ := respond_keeps hx
    exact ⟨hp, .inl ha⟩
  all_goals exact ⟨rfl, .inl rfl⟩

/-- Settles O45: the events of `step_cases` that write DEV are a foreign frame, its power-on, and the delivery of SEQ's
own frame; a frame for another address leaves it. -/
theorem devChangesOnlyOnDelivery : Obligations.DevChangesOnlyOnDelivery := by
  intro s t h hne
  rcases step_cases h with ⟨d, f, rest, e, he, rfl, hd⟩ | ⟨rest, he, -⟩ | ⟨_, _, _, _, _, _, -, -, rfl⟩ |
    ⟨_, _, -, -, hx⟩ | ⟨_, -, -, -, rfl⟩ | ⟨_, -, -, -, hx⟩ | ⟨d, f, rest, e, -, hp, hc, he, rfl, hd, -⟩ |
    ⟨_, _, _, _, -, -, -, -, rfl⟩ | rfl
  · have hs : d = s.params.strap := by_contra fun hs => hne (hd hs)
    exact .inl ⟨f, rest, hs ▸ he⟩
  · exact .inr (.inl ⟨rest, he⟩)
  · exact absurd rfl hne
  · exact absurd (exec_decodeCommand_dev hx) hne
  · exact absurd rfl hne
  · obtain ⟨-, -, hdev⟩ := respond_keeps hx
    exact absurd hdev hne
  · have hs : d = s.params.strap := by_contra fun hs => hne (hd hs)
    exact .inr (.inr ⟨f, rest, hp, hs ▸ hc, he⟩)
  · exact absurd rfl hne
  · exact absurd rfl hne

/-- Every frame of the microprogram is of the set of R68, where the operands are in range. -/
theorem issuable_of_uop {p : Params} {q : Seq} {f : FrameWord} (ho : OperandsOk q)
    (hu : uop p q.op q.step q.ch q.val = some f) : Issuable p f := by
  obtain ⟨hle, hch, hval⟩ := ho
  have hle := BitVec.le_def.mp hle
  unfold Issuable
  cases hq : q.op <;> rw [hq] at hu hle <;> simp only [uop] at hu
  case powerOn =>
    split_ifs at hu with h0 h1 h29 h30 h31 <;> cases hu
    · exact .inl rfl
    · exact .inr (.inl rfl)
    · rw [ledctlReg_eq (by omega) h29]
      exact .inr (.inr (.inr (.inl ⟨⟨q.step.toNat - 2, by omega⟩, by rw [BitVec.ofNat_add]; rfl⟩)))
    · exact .inr (.inr (.inr (.inr (.inl rfl))))
    · exact .inr (.inr (.inr (.inr (.inr (.inl rfl)))))
  case powerOff =>
    split_ifs at hu
    cases hu
    exact .inr (.inr (.inl rfl))
  case setFrequency =>
    split_ifs at hu
    cases hu
    rcases hval hq with hv | hv
    · exact .inr (.inr (.inr (.inr (.inr (.inr (.inl (by rw [hv])))))))
    · exact .inr (.inr (.inr (.inr (.inr (.inr (.inr (.inl (by rw [hv]))))))))
  case setPwm =>
    obtain ⟨h1, h28⟩ := channelOk_iff.mp (hch hq)
    split_ifs at hu <;> cases hu
    · rw [pwmReg_eq h1 h28]
      exact .inr (.inr (.inr (.inr (.inr (.inr (.inr (.inr
        ⟨⟨q.ch.toNat - 1, by omega⟩, q.val, by rw [BitVec.ofNat_add]; rfl⟩)))))))
    · exact .inr (.inr (.inr (.inr (.inl rfl))))

/-- Settles O44: ISSUE alone adds to the trace, one frame, the microprogram's. -/
theorem issuedFramesAreOfTheSet : Obligations.IssuedFramesAreOfTheSet := by
  intro s t hok h
  rcases step_cases h with ⟨_, _, _, _, -, rfl, -⟩ | ⟨_, -, rfl⟩ | ⟨_, _, _, _, _, _, -, -, rfl⟩ |
    ⟨_, _, -, -, hx⟩ | ⟨f, hb, -, hu, rfl⟩ | ⟨_, -, -, -, hx⟩ | ⟨_, _, _, _, -, -, -, -, rfl, -⟩ |
    ⟨_, _, _, _, -, -, -, -, rfl⟩ | rfl
  case inr.inr.inr.inl =>
    obtain ⟨htrace, -⟩ := exec_presents_nothing hx
    exact .inl htrace
  case inr.inr.inr.inr.inl =>
    obtain ⟨-, hops, -, -⟩ := hok
    exact .inr ⟨f, issuable_of_uop (hops hb) hu, rfl⟩
  case inr.inr.inr.inr.inr.inl =>
    obtain ⟨-, htrace, -⟩ := respond_frame hx
    exact .inl htrace
  all_goals exact .inl rfl

/-- The three ways SEQ takes an answer (R86, R87). -/
theorem respond_cases {a : BusAnswer} {s t : State} (h : respond a s = .next t) :
    (∃ e, a = .fail e ∧ t = endCommand (.busErr e) { s with bus := .quiet }) ∨
    (a = .ok ∧ s.seq.step = lastStep s.seq.op ∧ t = endCommand .ok { s with bus := .quiet }) ∨
    (a = .ok ∧ s.seq.step ≠ lastStep s.seq.op ∧
      t = { s with bus := .quiet, seq := { s.seq with pend := false, step := s.seq.step + 1 } }) := by
  cases a with
  | fail e =>
    cases h
    exact .inl ⟨e, rfl, rfl⟩
  | ok =>
    by_cases hs : s.seq.step = lastStep s.seq.op
    · rw [respond_ok_last hs] at h
      cases h
      exact .inr (.inl ⟨rfl, hs, rfl⟩)
    · rw [respond_ok_more hs] at h
      cases h
      exact .inr (.inr ⟨rfl, hs, rfl⟩)

/-- Settles O47: a result comes of the answer SEQ takes, or of a command word that fails the channel check. -/
theorem resultsEndCommands : Obligations.ResultsEndCommands := by
  intro s t h
  rcases step_seq_cases h with ⟨_, _, _, -, rfl⟩ | ⟨w, rest, hb, -, hx⟩ | ⟨_, -, -, rfl⟩ | ⟨a, ha, hx⟩ | hu
  · exact .inl rfl
  · obtain ⟨d, rfl⟩ | ⟨-, ⟨op, a, v, n, rfl, -, -⟩ | ⟨c, v, -, -, rfl⟩⟩ := exec_next hx
    · exact .inl rfl
    · exact .inl rfl
    · exact .inr ⟨.paramErr, rfl, rfl, rfl, nofun, nofun, fun _ => ⟨hb, rfl⟩⟩
  · exact .inl rfl
  · obtain ⟨e, rfl, rfl⟩ | ⟨rfl, hs, rfl⟩ | ⟨-, -, rfl⟩ := respond_cases hx
    · exact .inr ⟨.busErr e, rfl, rfl, rfl, nofun, fun _ he => by cases he; exact ha, nofun⟩
    · exact .inr ⟨.ok, rfl, rfl, rfl, fun _ => ⟨ha, hs⟩, nofun, nofun⟩
    · exact .inl rfl
  · exact .inl hu.results

/-! An idle SEQ (R90). -/

/-- Nothing is presented to an idle SEQ, and of what it has done nothing differs from `s`. -/
structure RestsSince (s t : State) : Prop where
  busy : t.seq.busy = false
  commands : t.commands = []
  trace : t.trace = s.trace
  results : t.results = s.results
  answers : t.answers = s.answers

/-- An idle SEQ with no command presented rests in every event. -/
theorem step_rests {s t u : State} (hr : RestsSince s t) (h : step t = .next u) : RestsSince s u := by
  obtain ⟨hb, hc, ht, hre, ha⟩ := hr
  rcases step_cases h with ⟨_, _, _, _, -, rfl, -⟩ | ⟨_, -, rfl⟩ | ⟨_, _, _, _, _, _, -, -, rfl⟩ |
    ⟨_, _, -, hw, -⟩ | ⟨_, hbusy, -⟩ | ⟨_, hbusy, -⟩ | ⟨_, _, _, _, hbusy, -⟩ | ⟨_, _, _, _, hbusy, -⟩ | rfl
  · exact ⟨hb, hc, ht, hre, ha⟩
  · exact ⟨hb, hc, ht, hre, ha⟩
  · exact ⟨rfl, hc, ht, hre, ha⟩
  · cases hc.symm.trans hw
  · cases hb.symm.trans hbusy
  · cases hb.symm.trans hbusy
  · cases hb.symm.trans hbusy
  · cases hb.symm.trans hbusy
  · exact ⟨hb, hc, ht, hre, ha⟩

/-- The first step of a run that reaches a state. -/
theorem runSteps_first {n : Nat} {s u : State} (h : runSteps (n + 1) s = .next u) :
    ∃ v, step s = .next v ∧ runSteps n v = .next u := by
  cases hs : step s with
  | next v => exact ⟨v, rfl, by rwa [runSteps_succ hs] at h⟩
  | fault r =>
    rw [runSteps, hs] at h
    cases h
  | refused r =>
    rw [runSteps, hs] at h
    cases h

/-- It rests in every run. -/
theorem runSteps_rests {s u : State} (n : Nat) :
    ∀ {t : State}, RestsSince s t → runSteps n t = .next u → RestsSince s u := by
  induction n with
  | zero =>
    intro t hr h
    cases h
    exact hr
  | succ n ih =>
    intro t hr h
    obtain ⟨v, hv, hrun⟩ := runSteps_first h
    exact ih (step_rests hr hv) hrun

/-- Settles O33: a run keeps SEQ at rest; with nothing but answers to come the state is a fixed point. -/
theorem idleSeqIssuesNothing : Obligations.IdleSeqIssuesNothing := by
  refine ⟨fun s t n hb hc h => ?_, fun s n hb hc ho => runSteps_fixed (step_event ?_) n⟩
  · obtain ⟨hb, -, ht, hr, ha⟩ := runSteps_rests n ⟨hb, hc, rfl, rfl, rfl⟩ h
    exact ⟨hb, ht, hr, ha⟩
  · rw [fetch_seqMove (calm_onlyAnswers ho) fun _ _ _ => by simp [hb], moving_onlyAnswers ho, seqMove_idle hb hc]

end Sys2Proof.Safety
end

section
/-! PROOFS. The frames on DEV (20_memory.md R36 to R45): the rows of the register map, and what each does. -/

namespace Sys2Proof.Frames

open Sys2Proof.Machine Sys2Proof.Encoding Sys2Proof.Claims Sys2Proof.Events

/-! The rows of the register map (R67). -/

/-- The row of the register map at address `reg`: the instruction a frame with the value `v` stands for. -/
inductive MapRow (v : Byte) : Byte → Instr → Prop where
  | shutdown : MapRow v 0x00 (.wShutdown v)
  | pwm (k : Fin 28) : MapRow v (BitVec.ofNat 8 (0x05 + k)) (pwmFrames[k] v)
  | update : MapRow v 0x25 (.wUpdate v)
  | ledctl (k : Fin 28) : MapRow v (BitVec.ofNat 8 (0x2A + k)) (ledctlFrames[k] v)
  | globalctl : MapRow v 0x4A (.wGlobalctl v)
  | outfreq : MapRow v 0x4B (.wOutfreq v)
  | reset : MapRow v 0x4F (.wReset v)

/-- A byte in a row of 28 addresses is its base and a channel index. -/
theorem eq_base_add {reg : Byte} {base : Nat} (h1 : base ≤ reg.toNat) (h2 : reg.toNat < base + 28) :
    ∃ k : Fin 28, reg = BitVec.ofNat 8 (base + k) := by
  have hb : base + (reg.toNat - base) = reg.toNat := by omega
  refine ⟨⟨reg.toNat - base, by omega⟩, BitVec.eq_of_toNat_eq ?_⟩
  rw [hb, BitVec.toNat_ofNat]
  exact (Nat.mod_eq_of_lt reg.isLt).symm

/-- Every address that selects an instruction is a row. -/
theorem frameInstr_row {reg v : Byte} {i : Instr} (h : frameInstr reg v = some i) : MapRow v reg i := by
  have hm : Mapped reg := by_contra fun hm => by simp [frameInstr_eq_none_of_not_mapped hm v] at h
  have same {n : Nat} (hn : reg.toNat = n) : reg = BitVec.ofNat 8 n :=
    BitVec.eq_of_toNat_eq (by rw [hn, BitVec.toNat_ofNat]; omega)
  rcases hm with hr | ⟨h1, h2⟩ | hr | ⟨h1, h2⟩ | hr | hr | hr
  · obtain rfl := same hr
    cases h
    exact .shutdown
  · obtain ⟨k, rfl⟩ := eq_base_add h1 (by omega)
    rw [frameInstr_pwm k v] at h
    cases h
    exact .pwm k
  · obtain rfl := same hr
    cases h
    exact .update
  · obtain ⟨k, rfl⟩ := eq_base_add h1 (by omega)
    rw [frameInstr_ledctl k v] at h
    cases h
    exact .ledctl k
  · obtain rfl := same hr
    cases h
    exact .globalctl
  · obtain rfl := same hr
    cases h
    exact .outfreq
  · obtain rfl := same hr
    cases h
    exact .reset

/-- A frame instruction is in a row. -/
theorem row_of_isFrame {i : Instr} (h : IsFrame i) : ∃ reg v, MapRow v reg i := by
  obtain ⟨w, hw⟩ := h
  have hd : decode (.bus16 w) = .ok i := hw ▸ decodeOfEncode i
  exact ⟨_, _, frameInstr_row (decode_bus16 hd)⟩

/-! What each row does. -/

/-- The PWM frame of channel `k + 1` stages its byte (R37). -/
theorem exec_pwmFrame (k : Fin 28) (v : Byte) (s : State) :
    exec (pwmFrames[k] v) s = .next (s.setDev (s.dev.stagePwm k v)) := by
  fin_cases k <;> rfl

/-- The LedControl frame of channel `k + 1` stages its byte (R38). -/
theorem exec_ledctlFrame (k : Fin 28) (v : Byte) (s : State) :
    exec (ledctlFrames[k] v) s = .next (s.setDev (s.dev.stageLed k v)) := by
  fin_cases k <;> rfl

/-- The effect of the frame of a row on DEV. -/
inductive RowEffect (p : Params) (v : Byte) : Byte → (Dev → Dev) → Prop where
  | shutdown : RowEffect p v 0x00 (·.writeShutdown v)
  | pwm (k : Fin 28) : RowEffect p v (BitVec.ofNat 8 (0x05 + k)) (·.stagePwm k v)
  | update : v = p.updateValue → RowEffect p v 0x25 Dev.latch
  | ledctl (k : Fin 28) : RowEffect p v (BitVec.ofNat 8 (0x2A + k)) (·.stageLed k v)
  | globalctl : RowEffect p v 0x4A (·.writeGlobalctl v)
  | outfreq : RowEffect p v 0x4B (·.writeOutfreq v)
  | reset : RowEffect p v 0x4F (fun _ => devDefaults p)

/-- A frame that has a meaning has one effect, whatever DEV holds; an Update frame has none with another value (R39). -/
theorem exec_row {reg v : Byte} {i : Instr} {s t : State} (hr : MapRow v reg i) (h : exec i s = .next t) :
    ∃ g, RowEffect s.params v reg g ∧ ∀ u : State, u.params = s.params → exec i u = .next (u.setDev (g u.dev)) := by
  cases hr with
  | shutdown => exact ⟨_, .shutdown, fun _ _ => rfl⟩
  | pwm k => exact ⟨_, .pwm k, fun u _ => exec_pwmFrame k v u⟩
  | update =>
    obtain ⟨hv, -⟩ := writeUpdate_next.mp h
    exact ⟨_, .update hv, fun u hu => writeUpdate_next.mpr ⟨hu ▸ hv, rfl⟩⟩
  | ledctl k => exact ⟨_, .ledctl k, fun u _ => exec_ledctlFrame k v u⟩
  | globalctl => exact ⟨_, .globalctl, fun _ _ => rfl⟩
  | outfreq => exact ⟨_, .outfreq, fun _ _ => rfl⟩
  | reset => exact ⟨_, .reset, fun u hu => by rw [← hu]; rfl⟩

/-- A frame that has a meaning has one in every state of DEV, and nothing but DEV tells the next states apart. -/
theorem exec_row_setDev {reg v : Byte} {i : Instr} {s t : State} (hr : MapRow v reg i) (h : exec i s = .next t)
    (d : Dev) : ∃ e, exec i (s.setDev d) = .next (t.setDev e) := by
  obtain ⟨g, -, hx⟩ := exec_row hr h
  cases h.symm.trans (hx s rfl)
  exact ⟨g d, hx (s.setDev d) rfl⟩

/-- Every effect is idempotent (R35). -/
theorem rowEffect_idempotent {p : Params} {reg v : Byte} {g : Dev → Dev} (h : RowEffect p v reg g) (d : Dev) :
    g (g d) = g d := by
  cases h with
  | pwm k => simp [Dev.stagePwm]
  | ledctl k => simp [Dev.stageLed]
  | _ => rfl

/-- Settles O21: each effect is idempotent. -/
theorem framesAreIdempotent : Obligations.FramesAreIdempotent := by
  intro i s t hi h
  obtain ⟨reg, v, hr⟩ := row_of_isFrame hi
  obtain ⟨g, hg, hx⟩ := exec_row hr h
  cases h.symm.trans (hx s rfl)
  rw [hx (s.setDev (g s.dev)) rfl, State.setDev_dev, State.setDev_setDev, rowEffect_idempotent hg]

/-- No channel's register address is that of Shutdown or of Reset (R67). -/
theorem channelReg_ne {base : Nat} (k : Fin 28) (h1 : 1 ≤ base) (h2 : base ≤ 0x2A) :
    BitVec.ofNat 8 (base + k) ≠ 0x4F ∧ BitVec.ofNat 8 (base + k) ≠ 0x00 := by
  have hk : (BitVec.ofNat 8 (base + k)).toNat = base + k := by
    rw [BitVec.toNat_ofNat]
    omega
  exact ⟨fun h => by simp [h] at hk; omega, fun h => by simp [h] at hk; omega⟩

/-- The modes of R98's table for a frame to `reg` with the value `v` that leads DEV from `d` to `e`. -/
def ModeTable (reg v : Byte) (d e : Dev) : Prop :=
  (reg = 0x4F → e.mode = some .shutdown) ∧ (reg = 0x00 → v = 0x01 → e.mode = some .normal) ∧
  (reg = 0x00 → v = 0x00 → e.mode = some .shutdown) ∧ (reg ≠ 0x4F → reg ≠ 0x00 → e.mode = d.mode)

/-- A frame to another register that leaves Shutdown as it is. -/
theorem modeTable_other {reg v : Byte} {d e : Dev} (hr : reg ≠ 0x4F ∧ reg ≠ 0x00) (he : e.sd = d.sd) :
    ModeTable reg v d e := by
  obtain ⟨hreset, hshutdown⟩ := hr
  exact ⟨fun h => absurd h hreset, fun h => absurd h hshutdown, fun h => absurd h hshutdown,
    fun _ _ => Dev.mode_congr he⟩

/-- Row by row, the mode after the frame. -/
theorem rowEffect_mode {p : Params} {reg v : Byte} {g : Dev → Dev} (h : RowEffect p v reg g) (d : Dev) :
    ModeTable reg v d (g d) := by
  cases h with
  | shutdown =>
    exact ⟨fun h => absurd h (by decide), fun _ => Dev.mode_normal (d := d.writeShutdown v),
      fun _ => Dev.mode_shutdown (d := d.writeShutdown v), fun _ h => absurd rfl h⟩
  | pwm k => exact modeTable_other (channelReg_ne k (by decide) (by decide)) rfl
  | update => exact modeTable_other (by decide) rfl
  | ledctl k => exact modeTable_other (channelReg_ne k (by decide) (by decide)) rfl
  | globalctl => exact modeTable_other (by decide) rfl
  | outfreq => exact modeTable_other (by decide) rfl
  | reset =>
    exact ⟨fun _ => devDefaults_mode p, fun h => absurd h (by decide), fun h => absurd h (by decide),
      fun h => absurd rfl h⟩

/-- Settles O22: row by row, the Shutdown and Reset frames alone write the Shutdown register. -/
theorem modeFollowsFrames : Obligations.ModeFollowsFrames := by
  intro s t reg v i hd h
  have hr : MapRow v reg i := by simpa using frameInstr_row (decode_bus16 hd)
  obtain ⟨g, hg, hx⟩ := exec_row hr h
  cases h.symm.trans (hx s rfl)
  exact rowEffect_mode hg s.dev

/-! Where a byte is stored (R15). -/

theorem storedAt_writeShutdown (d : Dev) (v r : Byte) :
    (d.writeShutdown v).storedAt r = if r = 0x00 then some v else d.storedAt r := by
  by_cases h : r = 0x00
  · rw [Dev.storedAt, if_pos h, if_pos h, Dev.writeShutdown_sd]
  · rw [Dev.storedAt, Dev.storedAt, if_neg h, if_neg h, if_neg h]
    rfl

theorem storedAt_writeGlobalctl (d : Dev) (v r : Byte) :
    (d.writeGlobalctl v).storedAt r = if r = 0x4A then some v else d.storedAt r := by
  by_cases h : r = 0x4A
  · subst h
    rfl
  · simp only [Dev.storedAt, if_neg h]
    rfl

theorem storedAt_writeOutfreq (d : Dev) (v r : Byte) :
    (d.writeOutfreq v).storedAt r = if r = 0x4B then some v else d.storedAt r := by
  by_cases h : r = 0x4B
  · subst h
    rfl
  · simp only [Dev.storedAt, if_neg h]
    rfl

/-- In Shutdown mode the outputs are off (R45). -/
theorem outputsOff_of_shutdown {d : Dev} (h : d.sd = vShutdown) : OutputsOff d :=
  fun k => ⟨Dev.visible_shutdown h, Dev.visible_shutdown_ne_on h k⟩

/-- In Normal mode the global settings are the carrier and the scaling (R45). -/
theorem globalVisible_normal {d : Dev} (h : d.sd = vNormal) : d.globalVisible = some (d.carrier, d.scaling) := by
  simp only [Dev.globalVisible, Dev.mode_normal h]

theorem scaling_maximum {d : Dev} (h : d.gcr = vGcrMax) : d.scaling = some .maximum :=
  if_pos h

/-- The two codes of OutputFrequency select a carrier (R41). -/
theorem carrier_low {d : Dev} (h : d.ofr = vFreqLow) : d.carrier = some .low :=
  if_pos h

theorem carrier_high {d : Dev} (h : d.ofr = vFreqHigh) : d.carrier = some .high := by
  rw [Dev.carrier, h]
  rfl

/-- Settles O13: `writeShutdown`, seen at every register address and in the visible settings. -/
theorem shutdownFrameSetsMode : Obligations.ShutdownFrameSetsMode :=
  fun s v => ⟨s.setDev (s.dev.writeShutdown v), rfl, rfl, storedAt_writeShutdown s.dev v,
    fun h => Dev.mode_normal h, fun h => ⟨Dev.mode_shutdown h, outputsOff_of_shutdown h⟩⟩

/-- Each PWM frame stages the byte of its channel. -/
theorem pwmFrame_stagesPwm (k : Fin 28) : StagesPwm pwmFrames[k] k :=
  fun s v => ⟨_, exec_pwmFrame k v s, rfl, fun c => Dev.stagePwm_getElem s.dev k c v, rfl,
    Dev.storedAt_stagePwm s.dev k v, fun _ => rfl, rfl⟩

/-- Each LedControl frame stages the byte of its channel. -/
theorem ledctlFrame_stagesLed (k : Fin 28) : StagesLed ledctlFrames[k] k :=
  fun s v => ⟨_, exec_ledctlFrame k v s, rfl, fun c => Dev.stageLed_getElem s.dev k c v, rfl,
    Dev.storedAt_stageLed s.dev k v, fun _ => rfl, rfl⟩

/-- Settles O14: channel by channel. -/
theorem pwmFramesStage : Obligations.PwmFramesStage :=
  have h := pwmFrame_stagesPwm
  ⟨h 0, h 1, h 2, h 3, h 4, h 5, h 6, h 7, h 8, h 9, h 10, h 11, h 12, h 13, h 14, h 15, h 16, h 17, h 18, h 19, h 20,
    h 21, h 22, h 23, h 24, h 25, h 26, h 27⟩

/-- Settles O15: channel by channel. -/
theorem ledctlFramesStage : Obligations.LedctlFramesStage :=
  have h := ledctlFrame_stagesLed
  ⟨h 0, h 1, h 2, h 3, h 4, h 5, h 6, h 7, h 8, h 9, h 10, h 11, h 12, h 13, h 14, h 15, h 16, h 17, h 18, h 19, h 20,
    h 21, h 22, h 23, h 24, h 25, h 26, h 27⟩

/-- The latch with nothing pending changes nothing (R39). -/
theorem latch_of_nothing_pending {d : Dev} (hp : d.pwmActive = d.pwmStaged) (hl : d.ledActive = d.ledStaged) :
    d.latch = d :=
  congrArg₂ (fun p l => { d with pwmActive := p, ledActive := l }) hp.symm hl.symm

/-- Settles O16: the frame is `Dev.latch`. -/
theorem updateFrameLatches : Obligations.UpdateFrameLatches := by
  intro s
  refine ⟨_, writeUpdate_latches s, fun _ => ⟨rfl, rfl⟩, rfl, rfl, fun _ => rfl, fun hp hl => ?_⟩
  rw [latch_of_nothing_pending hp hl, State.setDev_self]

/-- Settles O17: the other branch of `writeUpdate`. -/
theorem updateFrameWithOtherValueRefused : Obligations.UpdateFrameWithOtherValueRefused :=
  fun _ _ h => if_neg h

/-- Settles O18: `writeGlobalctl`, seen at every register address and in the visible settings. -/
theorem globalctlFrameImmediate : Obligations.GlobalctlFrameImmediate :=
  fun s v => ⟨_, rfl, rfl, storedAt_writeGlobalctl s.dev v, fun _ => rfl,
    scaling_maximum (d := s.dev.writeGlobalctl v)⟩

/-- Settles O19: `writeOutfreq`, likewise. -/
theorem outfreqFrameImmediate : Obligations.OutfreqFrameImmediate :=
  fun s v => ⟨_, rfl, rfl, storedAt_writeOutfreq s.dev v, fun _ => rfl,
    carrier_low (d := s.dev.writeOutfreq v), carrier_high (d := s.dev.writeOutfreq v)⟩

/-- Settles O20: the frame is `devDefaults`. -/
theorem resetFrameGivesDefaults : Obligations.ResetFrameGivesDefaults :=
  fun s _ => ⟨_, rfl, rfl, rfl, rfl, rfl, devDefaults_dark s.params⟩

/-- Settles O51: one lemma for each row of R45. -/
theorem visibleSettings : Obligations.VisibleSettings := by
  refine fun d => ⟨fun h => ⟨outputsOff_of_shutdown h, ?_⟩, fun k => Dev.visible_undefined, fun h => ⟨fun k => ?_, ?_⟩,
    fun h0 h1 => ?_⟩
  · simp only [Dev.globalVisible, Dev.mode_shutdown h]
  · exact ⟨Dev.visible_disabled h, Dev.visible_enabled h⟩
  · exact globalVisible_normal h
  · have hm : d.mode = none := (if_neg h0).trans (if_neg h1)
    exact ⟨fun k => by simp only [Dev.visible, hm], by simp only [Dev.globalVisible, hm]⟩

end Sys2Proof.Frames
end

section
/-! PROOFS. What SEQ does depends on nothing that DEV holds (R80): the same event comes next, whatever DEV holds, and it
leads to states that differ in DEV alone. -/

namespace Sys2Proof.Blindness

open Sys2Proof.Machine Sys2Proof.Invariant Sys2Proof.Events Sys2Proof.Frames

/-- Two events that differ in what DEV holds alone: the same word in states that differ there, two next states that
differ there, or the same stop. -/
inductive Twin : Fetched → Fetched → Prop where
  | word (r : Raw) (s : State) (d : Dev) : Twin (.word r s) (.word r (s.setDev d))
  | next (s : State) (d : Dev) : Twin (.event (.next s)) (.event (.next (s.setDev d)))
  | fault (r : Fault) : Twin (.event (.fault r)) (.event (.fault r))
  | refused (r : Refusal) : Twin (.event (.refused r)) (.event (.refused r))

theorem deliver_twin (a : BusAddr) (f : FrameWord) (s : State) (d : Dev) :
    Twin (deliver a f s) (deliver a f (s.setDev d)) := by
  by_cases h : a = s.params.strap
  · rw [deliver_own h, deliver_own (s := s.setDev d) h]
    exact .word _ s d
  · rw [deliver_other h, deliver_other (s := s.setDev d) h]
    exact .next s d

theorem construct_twin (a : BusAddr) (s : State) (d : Dev) :
    Twin (.event (construct a s)) (.event (construct a (s.setDev d))) := by
  cases hb : s.seq.busy
  · rw [construct_idle hb, construct_idle (s := s.setDev d) hb]
    exact .next _ d
  · rw [construct_busy hb, construct_busy (s := s.setDev d) hb]
    exact .refused _

theorem issue_twin (s : State) (d : Dev) : Twin (.event (issue s)) (.event (issue (s.setDev d))) := by
  simp only [issue, State.setDev_seq, State.setDev_params]
  split
  · exact .fault _
  · exact .next _ d

theorem respond_twin (a : BusAnswer) (s : State) (d : Dev) :
    Twin (.event (respond a s)) (.event (respond a (s.setDev d))) := by
  cases a with
  | fail e => exact .next _ d
  | ok =>
    by_cases h : s.seq.step = lastStep s.seq.op
    · rw [respond_ok_last h, respond_ok_last (s := s.setDev d) h]
      exact .next _ d
    · rw [respond_ok_more h, respond_ok_more (s := s.setDev d) h]
      exact .next _ d

theorem seqMove_twin (s : State) (d : Dev) : Twin (seqMove s) (seqMove (s.setDev d)) := by
  cases hb : s.seq.busy
  · cases hc : s.commands with
    | nil =>
      rw [seqMove_idle hb hc, seqMove_idle (s := s.setDev d) hb hc]
      exact .next s d
    | cons w rest =>
      rw [seqMove_command hb hc, seqMove_command (s := s.setDev d) hb hc]
      exact .word _ _ d
  · cases hp : s.seq.pend
    · rw [seqMove_issue hb hp, seqMove_issue (s := s.setDev d) hb hp]
      exact issue_twin s d
    · simp only [seqMove, State.setDev_seq, State.setDev_bus, hb, hp, if_true]
      cases s.bus with
      | quiet => exact .next s d
      | carrying a f => exact .next s d
      | answered a => exact respond_twin a s d

theorem answerFrame_twin (a : BusAnswer) (b : BusAddr) (f : FrameWord) (rest : List EnvEvent) (s : State) (d : Dev) :
    Twin (answerFrame a b f rest s) (answerFrame a b f rest (s.setDev d)) := by
  cases a with
  | ok => exact deliver_twin b f (s.gotAnswer .ok rest) d
  | fail e => exact .next (s.gotAnswer (.fail e) rest) d

/-- The next event is the same whatever DEV holds. -/
theorem fetch_twin (s : State) (d : Dev) : Twin (fetch s) (fetch (s.setDev d)) := by
  rcases he : s.env with _ | ⟨e, rest⟩
  · rw [fetch_nil he, fetch_nil (s := s.setDev d) he]
    exact seqMove_twin s d
  · cases e with
    | foreign a f =>
      rw [fetch_foreign he, fetch_foreign (s := s.setDev d) he]
      exact deliver_twin a f { s with env := rest } d
    | devPowerOn =>
      rw [fetch_devPowerOn he, fetch_devPowerOn (s := s.setDev d) he]
      exact .next _ (devDefaults s.params)
    | construct a =>
      rw [fetch_construct he, fetch_construct (s := s.setDev d) he]
      exact construct_twin a { s with env := rest } d
    | later =>
      rw [fetch_later he, fetch_later (s := s.setDev d) he]
      exact seqMove_twin { s with env := rest } d
    | answer a =>
      by_cases hw : ∃ b f, s.bus = .carrying b f ∧ s.seq.busy = true ∧ s.seq.pend = true
      · obtain ⟨b, f, hc, hb, hp⟩ := hw
        rw [fetch_answer hb hp hc he, fetch_answer (s := s.setDev d) hb hp hc he]
        exact answerFrame_twin a b f rest s d
      · have hn (b f) (hc : s.bus = .carrying b f) : (s.seq.busy && s.seq.pend) = false :=
          Bool.eq_false_of_not_eq_true fun h => hw ⟨b, f, hc, by simpa using h⟩
        rw [fetch_seqMove (calm_answer he) hn, fetch_seqMove (s := s.setDev d) (calm_answer he) hn]
        exact seqMove_twin s.moving d

/-- Whether SEQ takes a command depends on nothing that DEV holds. -/
theorem acceptWhenIdle_setDev {s t u : State} (h : acceptWhenIdle u s = .next t) (d : Dev) :
    ∃ d', acceptWhenIdle (u.setDev d) (s.setDev d) = .next (t.setDev d') := by
  obtain ⟨hb, rfl⟩ | ⟨hb, rfl⟩ := acceptWhenIdle_next.mp h
  · exact ⟨d, acceptWhenIdle_busy hb⟩
  · exact ⟨d, acceptWhenIdle_idle hb⟩

/-- The word that arrives runs in both states or in neither, and the outcomes differ in DEV alone. -/
theorem exec_setDev {r : Raw} {i : Instr} {s t : State} (hi : decode r = .ok i) (h : exec i s = .next t) (d : Dev) :
    ∃ d', exec i (s.setDev d) = .next (t.setDev d') := by
  cases r with
  | cmd18 w =>
    cases hi
    obtain ⟨u, hx, hu⟩ := exec_decodeCommand w
    rw [hx] at h
    rw [hx, hu]
    exact acceptWhenIdle_setDev h d
  | bus16 f =>
    exact exec_row_setDev (frameInstr_row (decode_bus16 hi)) h d

/-- Settles O48: the same event, and a word runs in both states or in neither. -/
theorem seqBlindToDev : Obligations.SeqBlindToDev := by
  intro s t d h
  have ht := fetch_twin s d
  change ∃ d', step (s.setDev d) = .next (t.setDev d')
  unfold step at h ⊢
  generalize fetch s = x, fetch (s.setDev d) = y at h ht ⊢
  cases ht with
  | word r u d =>
    dsimp only at h ⊢
    split at h
    · next i hi => exact exec_setDev hi h d
    · cases h
  | next u d => cases h; exact ⟨d, rfl⟩
  | fault r => cases h
  | refused r => cases h

end Sys2Proof.Blindness
end

section
/-! PROOFS. A command as a list of frames: its ACCEPT, its microsequence, and the state at the end of a run in which
each frame is answered as soon as it is awaited (40_engine.md R81 to R88). -/

namespace Sys2Proof.Commands

open Sys2Proof.Machine Sys2Proof.Engine Sys2Proof.Claims

/-! The microsequence of a command. -/

/-- `L` lists the rows of the microprogram for the command `op`, from step 0 to its last step. -/
structure Microsequence (p : Params) (op : Opcode) (ch val : Byte) (L : List FrameWord) : Prop where
  length : L.length = (lastStep op).toNat + 1
  row (j : Nat) (h : j < L.length) : uop p op (BitVec.ofNat 6 j) ch val = some L[j]

/-- The LedControl frames of POWER_ON are its frames 2 to 29 (R96). -/
theorem powerOnFrames_ledctl (p : Params) {j : Nat} (h2 : 2 ≤ j) (h29 : j ≤ 29) (h : j < (powerOnFrames p).length) :
    (powerOnFrames p)[j] = frameWord (BitVec.ofNat 8 (0x2A + (j - 2))) 0x01 := by
  obtain ⟨k, rfl⟩ : ∃ k, j = k + 2 := ⟨j - 2, by omega⟩
  have hk : k < 28 := by omega
  simp [powerOnFrames, hk, BitVec.ofNat_add]

theorem powerOn_microsequence (p : Params) (ch val : Byte) :
    Microsequence p .powerOn ch val (powerOnFrames p) where
  length := rfl
  row j h := by
    obtain ⟨h0, h1, hled, h30, h31, -⟩ := microprogramRows p ch val
    have hj : j < 32 := h
    by_cases hm : 2 ≤ j ∧ j ≤ 29
    · obtain ⟨h2, h29⟩ := hm
      rw [powerOnFrames_ledctl p h2 h29, hled j h2 h29]
    · obtain rfl | rfl | rfl | rfl : j = 0 ∨ j = 1 ∨ j = 30 ∨ j = 31 := by omega
      · exact h0
      · exact h1
      · exact h30
      · exact h31

theorem powerOff_microsequence (p : Params) (ch val : Byte) : Microsequence p .powerOff ch val powerOffFrames where
  length := rfl
  row j h := by
    obtain rfl : j = 0 := Nat.lt_one_iff.mp h
    rfl

theorem setFrequency_microsequence (p : Params) (ch : Byte) (sel : BitVec 1) :
    Microsequence p .setFrequency ch (selByte sel) (setFrequencyFrames sel) where
  length := rfl
  row j h := by
    obtain rfl : j = 0 := Nat.lt_one_iff.mp h
    rw [selByte_eq]
    rfl

theorem setPwm_microsequence (p : Params) {c : Byte} (v : Byte) (h1 : 1 ≤ c.toNat) (h28 : c.toNat ≤ 28) :
    Microsequence p .setPwm c v (setPwmFrames p c v) where
  length := rfl
  row j h := by
    have hj : j < 2 := h
    obtain rfl | rfl : j = 0 ∨ j = 1 := by omega
    · exact congrArg (fun r => some (frameWord r v)) (pwmReg_eq h1 h28)
    · rfl

/-- A frame of the microprogram is the one its step is the index of. -/
theorem Microsequence.take_succ {p : Params} {op : Opcode} {ch val : Byte} {L : List FrameWord}
    (hm : Microsequence p op ch val L) {n : MicroStep} {f : FrameWord} (hu : uop p op n ch val = some f) :
    L.take (n.toNat + 1) = L.take n.toNat ++ [f] := by
  have hle : ¬ lastStep op < n := fun hlt => by simp [uop_eq_none hlt] at hu
  have hn : n.toNat < L.length := by
    rw [hm.length]
    have := BitVec.le_def.mp (BitVec.not_lt.mp hle)
    omega
  have hr := hm.row n.toNat hn
  rw [BitVec.ofNat_toNat, BitVec.setWidth_eq, hu] at hr
  rw [List.take_succ_eq_append_getElem hn, Option.some.inj hr]

/-! ACCEPT, for every command alike. -/

/-- The state `t` in which an idle SEQ in state `s` has taken up the command `i`, whose frames are `F`. -/
structure Accepts (i : Instr) (F : Params → List FrameWord) (s t : State) : Prop where
  runs : exec i s = .next t
  busy : t.seq.busy = true
  pend : t.seq.pend = false
  step : t.seq.step = 0#6
  address : t.seq.address = s.seq.address
  operands : OperandsOk t.seq
  frames : Microsequence s.params t.seq.op t.seq.ch t.seq.val (F s.params)
  frame : t = { s with seq := t.seq, draws := t.draws }

/-- What `exec` leaves of a command that passes the check. -/
theorem accepts_of_exec {i : Instr} {F : Params → List FrameWord} {s : State} {op : Opcode} {a v : Byte} {n : Nat}
    (hx : exec i s = .next ((accepted op a v s).drew n)) (hm : Microsequence s.params op a v (F s.params))
    (hch : op = .setPwm → channelOk a = true) (hval : op = .setFrequency → v = vFreqLow ∨ v = vFreqHigh) :
    Accepts i F s ((accepted op a v s).drew n) where
  runs := hx
  busy := rfl
  pend := rfl
  step := rfl
  address := rfl
  operands := ⟨BitVec.le_def.mpr (Nat.zero_le _), hch, hval⟩
  frames := hm
  frame := rfl

/-! Each command is taken up by an idle SEQ (R83). -/

theorem powerOn_accepts {s : State} (hi : Idle s) (a b : Byte) : ∃ t, Accepts (.powerOn a b) powerOnFrames s t := by
  obtain ⟨hb, -, -⟩ := hi
  exact ⟨_, accepts_of_exec (acceptWhenIdle_idle hb) (powerOn_microsequence ..) nofun nofun⟩

theorem powerOff_accepts {s : State} (hi : Idle s) (a b : Byte) :
    ∃ t, Accepts (.powerOff a b) (fun _ => powerOffFrames) s t := by
  obtain ⟨hb, -, -⟩ := hi
  exact ⟨_, accepts_of_exec (acceptWhenIdle_idle hb) (powerOff_microsequence ..) nofun nofun⟩

theorem setFrequency_accepts {s : State} (hi : Idle s) (a : Byte) (rsv : BitVec 7) (sel : BitVec 1) :
    ∃ t, Accepts (.setFrequency a rsv sel) (fun _ => setFrequencyFrames sel) s t := by
  obtain ⟨hb, -, -⟩ := hi
  have hsel : selByte sel = vFreqLow ∨ selByte sel = vFreqHigh := by
    rw [selByte_eq]
    split
    · exact .inr rfl
    · exact .inl rfl
  exact ⟨_, accepts_of_exec (n := 0) (acceptWhenIdle_idle hb) (setFrequency_microsequence ..) nofun fun _ => hsel⟩

theorem setPwm_accepts {s : State} (hi : Idle s) {c : Byte} (v : Byte) (h1 : 1 ≤ c.toNat) (h28 : c.toNat ≤ 28) :
    ∃ t, Accepts (.setPwm c v) (fun p => setPwmFrames p c v) s t := by
  obtain ⟨hb, -, -⟩ := hi
  have hc := channelOk_iff.mpr ⟨h1, h28⟩
  exact ⟨_, accepts_of_exec (n := 0) (exec_setPwm_accepted hb hc) (setPwm_microsequence _ v h1 h28) (fun _ => hc) nofun⟩

/-- What follows from the ACCEPT of a command holds of every command. -/
theorem everyCommand_of_accepts {P : Instr → (Params → List FrameWord) → Prop}
    (h : ∀ i F, (∀ s : State, Idle s → ∃ t, Accepts i F s t) → P i F) : EveryCommand P :=
  ⟨fun a b => h _ _ fun _ hi => powerOn_accepts hi a b, fun a b => h _ _ fun _ hi => powerOff_accepts hi a b,
    fun a rsv sel => h _ _ fun _ hi => setFrequency_accepts hi a rsv sel,
    fun _ v h1 h28 => h _ _ fun _ hi => setPwm_accepts hi v h1 h28⟩

/-! DEV during a command. -/

/-- DEV after a frame that is delivered to it. -/
theorem devAfterFrame_eq {p : Params} {f : FrameWord} {d e : Dev} (h : Delivers p f d e) : devAfterFrame p d f = e := by
  obtain ⟨i, hi, hx⟩ := h
  simp only [devAfterFrame, hi, hx { State.reset with params := p, dev := d } rfl rfl, State.setDev_dev]

theorem devAfter_append (p : Params) (d : Dev) (L : List FrameWord) (f : FrameWord) :
    devAfter p d (L ++ [f]) = devAfterFrame p (devAfter p d L) f :=
  List.foldl_append

/-- DEV, given `d` at the ACCEPT, after the first `j` frames of a command: where SEQ's address is not DEV's they land in
another device. -/
def devSeen (s : State) (L : List FrameWord) (j : Nat) : Dev :=
  if s.seq.address = s.params.strap then devAfter s.params s.dev (L.take j) else s.dev

theorem devSeen_own {s : State} (h : s.seq.address = s.params.strap) (L : List FrameWord) (j : Nat) :
    devSeen s L j = devAfter s.params s.dev (L.take j) :=
  if_pos h

theorem devSeen_other {s : State} (h : s.seq.address ≠ s.params.strap) (L : List FrameWord) (j : Nat) :
    devSeen s L j = s.dev :=
  if_neg h

/-- An accepted command goes through its frames, and DEV through what they leave. -/
theorem Accepts.commandFrames {i : Instr} {F : Params → List FrameWord} {s t : State} (ha : Accepts i F s t)
    (hq : s.bus = .quiet) : CommandFrames t (fun j => (F s.params).getD j 0) (devSeen s (F s.params)) := by
  have hparams : t.params = s.params := by rw [ha.frame]
  have hdev : t.dev = s.dev := by rw [ha.frame]
  refine ⟨ha.busy, ha.pend, by rw [ha.frame, hq], ha.step, ?_, fun j hj => ?_⟩
  · by_cases h : s.seq.address = s.params.strap
    · rw [devSeen_own h, hdev]
      rfl
    · rw [devSeen_other h, hdev]
  · have hlen := ha.frames.length
    have hjL : j < (F s.params).length := by omega
    have hj6 : (BitVec.ofNat 6 j).toNat = j := by
      have := lastStep_toNat_le t.seq.op
      rw [BitVec.toNat_ofNat, Nat.mod_eq_of_lt (by omega)]
    have hu : uop t.params t.seq.op (BitVec.ofNat 6 j) t.seq.ch t.seq.val = some ((F s.params).getD j 0) := by
      rw [hparams, ha.frames.row j hjL, List.getD_eq_getElem _ _ hjL]
    refine ⟨hu, ?_⟩
    by_cases h : s.seq.address = s.params.strap
    · obtain ⟨-, hch, hval⟩ := ha.operands
      obtain ⟨e, he⟩ := uop_delivers (q := { t.seq with step := BitVec.ofNat 6 j })
        ⟨BitVec.le_def.mpr (hj6.symm ▸ hj : (BitVec.ofNat 6 j).toNat ≤ _), hch, hval⟩ hu (devSeen s (F s.params) j)
      refine .inl ⟨by rw [ha.address, hparams, h], ?_⟩
      have hnext : devSeen s (F s.params) (j + 1) = e := by
        rw [← devAfterFrame_eq he, devSeen_own h, devSeen_own h, List.take_succ_eq_append_getElem hjL,
          List.getD_eq_getElem _ _ hjL, devAfter_append, hparams]
      exact hnext ▸ he
    · exact .inr ⟨by rw [ha.address, hparams]; exact h, by rw [devSeen_other h, devSeen_other h]⟩

/-! The end of a command. -/

/-- `u` is the state in which a command taken in state `s` has ended: the frames issued, the result, DEV, and what the
outside world still does. -/
structure Ended (s u : State) (issued : List FrameWord) (r : Result) (d : Dev) (env : List EnvEvent) : Prop where
  trace : u.trace = s.trace ++ issued.map fun f => ⟨s.seq.address, f⟩
  results : u.results = s.results ++ [r]
  idle : Idle u
  dev : u.dev = d
  env : u.env = env
  commands : u.commands = s.commands
  address : u.seq.address = s.seq.address

/-- The first frames of a list, index by index. -/
theorem map_range_getD (g : FrameWord → Issued) {L : List FrameWord} {n : Nat} (h : n ≤ L.length) :
    (List.range n).map (fun i => g (L.getD i 0)) = (L.take n).map g := by
  apply List.ext_getElem
  · simp [h]
  · intro j h1 h2
    have hj : j < L.length := by simp at h1; omega
    simp [hj]

/-- All frames answered `ok`: the command issues them all and ends with OK (R86). -/
theorem Accepts.ends_ok {i : Instr} {F : Params → List FrameWord} {s t : State} (ha : Accepts i F s t) (hi : Idle s)
    {rest : List EnvEvent} (hr : Calm rest)
    (he : s.env = answerEvents (List.replicate (F s.params).length .ok) ++ rest) :
    ∃ u, runSteps (3 * (F s.params).length) t = .next u ∧
      Ended s u (F s.params) .ok (devSeen s (F s.params) (F s.params).length) (afterMove rest) := by
  obtain ⟨-, -, hq⟩ := hi
  have hrun := command_ok (ha.commandFrames hq) ha.frames.length hr (by rw [ha.frame, he])
  rw [map_range_getD (fun f => ⟨t.seq.address, f⟩) (Nat.le_refl _), List.take_length, ha.address] at hrun
  refine ⟨_, hrun, ?_, ?_, ⟨rfl, rfl, rfl⟩, rfl, rfl, ?_, ha.address⟩
  · rw [ha.frame]
  · rw [ha.frame]
  · rw [ha.frame]

/-- Frame `j` answered with a failure: the command issues the frames up to it and ends with BUS's error (R87). -/
theorem Accepts.ends_fail {i : Instr} {F : Params → List FrameWord} {s t : State} (ha : Accepts i F s t) (hi : Idle s)
    {j : Nat} {e : BusErr} {rest : List EnvEvent} (hj : j < (F s.params).length) (hr : Calm rest)
    (he : s.env = answerEvents (List.replicate j .ok ++ [.fail e]) ++ rest) :
    ∃ u, runSteps (3 * (j + 1)) t = .next u ∧
      Ended s u ((F s.params).take (j + 1)) (.busErr e) (devSeen s (F s.params) j) (afterMove rest) := by
  obtain ⟨-, -, hq⟩ := hi
  have hlen := ha.frames.length
  have hrun := command_fail (ha.commandFrames hq) (by omega : j ≤ (lastStep t.seq.op).toNat) hr (by rw [ha.frame, he])
  rw [map_range_getD (fun f => ⟨t.seq.address, f⟩) hj, ha.address] at hrun
  refine ⟨_, hrun, ?_, ?_, ⟨rfl, rfl, rfl⟩, rfl, rfl, ?_, ha.address⟩
  · rw [ha.frame]
  · rw [ha.frame]
  · rw [ha.frame]

/-- Settles O34: for every command, from its ACCEPT. -/
theorem commandsRunTheirFrames : Obligations.CommandsRunTheirFrames := by
  refine everyCommand_of_accepts fun i F haccept s hi => ⟨fun rest hr he => ?_, fun j e rest hj hr he => ?_⟩
  · obtain ⟨t, ha⟩ := haccept s hi
    obtain ⟨u, hu, h⟩ := ha.ends_ok hi hr he
    exact ⟨t, u, ha.runs, hu, h.trace, h.results, h.idle, h.env, h.commands, h.address⟩
  · obtain ⟨t, ha⟩ := haccept s hi
    obtain ⟨u, hu, h⟩ := ha.ends_fail hi hj hr he
    exact ⟨t, u, ha.runs, hu, h.trace, h.results, h.idle, h.env, h.commands, h.address⟩

end Sys2Proof.Commands
end

section
/-! PROOFS. What each command does to DEV (41_lifecycle.md, 42_pwm_latch.md, 43_control_regs.md, 60_exceptions.md R134),
where SEQ's address is DEV's own. -/

namespace Sys2Proof.Commands

open Sys2Proof.Machine Sys2Proof.Engine Sys2Proof.Frames Sys2Proof.Claims

/-- A command of `n` frames, all answered `ok`, leaves DEV as its frames do. -/
theorem accepted_own_ok {i : Instr} {F : Params → List FrameWord} {s : State} {n : Nat}
    (h : ∃ t, Accepts i F s t) (hn : (F s.params).length = n) (hi : Idle s) (ho : s.seq.address = s.params.strap)
    {rest : List EnvEvent} (hr : Calm rest) (he : s.env = answerEvents (List.replicate n .ok) ++ rest) :
    ∃ t u, exec i s = .next t ∧ runSteps (3 * n) t = .next u ∧ u.results = s.results ++ [.ok] ∧ Idle u ∧
      u.dev = devAfter s.params s.dev (F s.params) := by
  subst hn
  obtain ⟨t, ha⟩ := h
  obtain ⟨u, hu, hend⟩ := ha.ends_ok hi hr he
  exact ⟨t, u, ha.runs, hu, hend.results, hend.idle, by rw [hend.dev, devSeen_own ho, List.take_length]⟩

/-- A command whose frame `j` fails leaves DEV as the frames before it do (R134). -/
theorem accepted_own_fail {i : Instr} {F : Params → List FrameWord} {s : State} {j : Nat} {e : BusErr}
    (h : ∃ t, Accepts i F s t) (hj : j < (F s.params).length) (hi : Idle s) (ho : s.seq.address = s.params.strap)
    {rest : List EnvEvent} (hr : Calm rest) (he : s.env = answerEvents (List.replicate j .ok ++ [.fail e]) ++ rest) :
    ∃ t u, exec i s = .next t ∧ runSteps (3 * (j + 1)) t = .next u ∧ u.results = s.results ++ [.busErr e] ∧ Idle u ∧
      u.trace.length = s.trace.length + (j + 1) ∧ u.dev = devAfter s.params s.dev ((F s.params).take j) := by
  obtain ⟨t, ha⟩ := h
  obtain ⟨u, hu, hend⟩ := ha.ends_fail hi hj hr he
  refine ⟨t, u, ha.runs, hu, hend.results, hend.idle, ?_, by rw [hend.dev, devSeen_own ho]⟩
  rw [hend.trace, List.length_append, List.length_map, List.length_take, Nat.min_eq_left hj]

/-- Normal mode is one value of the Shutdown register (R16). -/
theorem mode_eq_normal {d : Dev} : d.mode = some .normal ↔ d.sd = vNormal := by
  refine ⟨fun h => ?_, Dev.mode_normal⟩
  unfold Dev.mode at h
  split_ifs at h with h0 h1
  · cases h
  · exact h1

/-! POWER_ON (R96, R134). -/

/-- The staged LedControl bytes after `j` frames of POWER_ON, as `powerOnDev` has them. -/
def enabledBefore (j : Nat) : Vector Byte 28 := Vector.ofFn fun k => if k.val + 2 < j then 0x01 else 0x00

theorem enabledBefore_getElem (j c : Nat) (hc : c < 28) :
    (enabledBefore j)[c] = if c + 2 < j then 0x01 else 0x00 :=
  Vector.getElem_ofFn ..

/-- Before the first LedControl frame none is staged. -/
theorem enabledBefore_none {j : Nat} (h : j ≤ 2) : enabledBefore j = Vector.replicate 28 0x00 := by
  ext1 c hc
  rw [enabledBefore_getElem, if_neg (by omega), Vector.getElem_replicate]

/-- After the last one all are. -/
theorem enabledBefore_all {j : Nat} (h : 30 ≤ j) : enabledBefore j = Vector.replicate 28 0x01 := by
  ext1 c hc
  rw [enabledBefore_getElem, if_pos (by omega), Vector.getElem_replicate]

/-- Each stages its own channel. -/
theorem enabledBefore_succ (k : Fin 28) : enabledBefore (k + 3) = (enabledBefore (k + 2)).set k 0x01 := by
  ext1 c hc
  rw [Vector.getElem_set, enabledBefore_getElem, enabledBefore_getElem]
  by_cases h : k.val = c
  · rw [if_pos h, if_pos (by omega)]
  · rw [if_neg h]
    exact if_congr (by omega) rfl rfl

/-- A row of the table after at least one frame. -/
theorem powerOnDev_pos (p : Params) (d : Dev) {j : Nat} (h : j ≠ 0) :
    powerOnDev p d j =
      { sd := if j = 1 then 0x00 else 0x01
        gcr := if j = 32 then 0x00 else gcrDefault p
        ofr := ofrDefault p
        pwmStaged := Vector.replicate 28 0x00
        pwmActive := Vector.replicate 28 0x00
        ledStaged := enabledBefore j
        ledActive := Vector.replicate 28 (if j ≤ 30 then 0x00 else 0x01) } :=
  if_neg h

/-! The rows of the partial-state table, each from the one before. -/

theorem powerOnDev_reset (p : Params) (d : Dev) : powerOnDev p d 1 = devDefaults p := by
  rw [powerOnDev_pos p d (by decide), enabledBefore_none (by decide)]
  rfl

theorem powerOnDev_shutdown (p : Params) (d : Dev) : powerOnDev p d 2 = (powerOnDev p d 1).writeShutdown 0x01 := by
  rw [powerOnDev_reset, powerOnDev_pos p d (by decide), enabledBefore_none (Nat.le_refl 2)]
  rfl

theorem powerOnDev_ledctl (p : Params) (d : Dev) (k : Fin 28) :
    powerOnDev p d (k + 3) = (powerOnDev p d (k + 2)).stageLed k 0x01 := by
  have hk := k.isLt
  rw [powerOnDev_pos p d (by omega), powerOnDev_pos p d (by omega), enabledBefore_succ, if_neg (by omega),
    if_neg (by omega), if_pos (by omega), if_neg (by omega), if_neg (by omega), if_pos (by omega)]
  rfl

theorem powerOnDev_update (p : Params) (d : Dev) : powerOnDev p d 31 = (powerOnDev p d 30).latch := by
  rw [powerOnDev_pos p d (by decide), powerOnDev_pos p d (by decide), enabledBefore_all (by decide),
    enabledBefore_all (Nat.le_refl 30)]
  rfl

theorem powerOnDev_globalctl (p : Params) (d : Dev) : powerOnDev p d 32 = (powerOnDev p d 31).writeGlobalctl 0x00 := by
  rw [powerOnDev_pos p d (by decide), powerOnDev_pos p d (by decide), enabledBefore_all (by decide),
    enabledBefore_all (by decide)]
  rfl

/-- Each frame of POWER_ON leads DEV to the next row of the table. -/
theorem powerOn_row_delivers {p : Params} {n : MicroStep} {ch val : Byte} {f : FrameWord}
    (hu : uop p .powerOn n ch val = some f) (d : Dev) :
    Delivers p f (powerOnDev p d n.toNat) (powerOnDev p d (n.toNat + 1)) := by
  simp only [uop] at hu
  split_ifs at hu with h0 h1 h29 h30 h31 <;> cases hu
  · rw [h0, powerOnDev_reset]
    exact delivers_reset ..
  · rw [h1, powerOnDev_shutdown]
    exact delivers_shutdown ..
  · obtain ⟨k, hk⟩ : ∃ k : Fin 28, n.toNat = k + 2 := ⟨⟨n.toNat - 2, by omega⟩, by simp; omega⟩
    rw [ledctlReg_eq (by omega) h29, hk, powerOnDev_ledctl]
    exact delivers_led p k _ _
  · rw [h30, powerOnDev_update]
    exact delivers_update ..
  · rw [h31, powerOnDev_globalctl]
    exact delivers_globalctl ..

/-- The first `j` frames of POWER_ON leave DEV at row `j` of the table. -/
theorem devAfter_powerOn (p : Params) (d : Dev) {j : Nat} (hj : j ≤ 32) :
    devAfter p d ((powerOnFrames p).take j) = powerOnDev p d j := by
  induction j with
  | zero => rfl
  | succ j ih =>
    have hm := powerOn_microsequence p 0 0
    have hlt : j < (powerOnFrames p).length := hj
    have hj6 : (BitVec.ofNat 6 j).toNat = j := by rw [BitVec.toNat_ofNat, Nat.mod_eq_of_lt (by omega)]
    have hrow := powerOn_row_delivers (hm.row j hlt) d
    rw [hj6] at hrow
    rw [List.take_succ_eq_append_getElem hlt, devAfter_append, ih (by omega), devAfterFrame_eq hrow]

/-- Settles O36: the failing frame is frame `k - 1`, counted from 0. -/
theorem powerOnFailureLeavesPartialState : Obligations.PowerOnFailureLeavesPartialState := by
  intro s a b k e rest h1 h32 hi ho hr he
  obtain ⟨j, rfl⟩ : ∃ j, k = j + 1 := ⟨k - 1, by omega⟩
  obtain ⟨t, u, ht, hu, hres, hidle, htr, hdev⟩ :=
    accepted_own_fail (powerOn_accepts hi a b) (show j < 32 by omega) hi ho hr he
  exact ⟨t, u, ht, hu, hres, hidle, htr, hdev.trans (devAfter_powerOn s.params s.dev (by omega))⟩

/-- The last row of the table: every channel enabled and dark. -/
theorem powerOnDev_operational (p : Params) (d : Dev) (k : Fin 28) :
    (powerOnDev p d 32).ledStaged[k] = 0x01 ∧ (powerOnDev p d 32).ledActive[k] = 0x01 ∧
    (powerOnDev p d 32).pwmStaged[k] = 0x00 ∧ (powerOnDev p d 32).pwmActive[k] = 0x00 := by
  rw [powerOnDev_pos p d (by decide), enabledBefore_all (by decide)]
  simp

/-- Settles O35: the last row of the table, and what it shows. -/
theorem powerOnReachesOperationalState : Obligations.PowerOnReachesOperationalState := by
  intro s a b rest hi ho hr he
  obtain ⟨t, u, ht, hu, hres, hidle, hdev⟩ :=
    accepted_own_ok (n := 32) (powerOn_accepts hi a b) rfl hi ho hr he
  have hend : u.dev = powerOnDev s.params s.dev 32 := hdev.trans (devAfter_powerOn s.params s.dev (Nat.le_refl _))
  have hsd : u.dev.sd = 0x01 := by rw [hend]; rfl
  have hgcr : u.dev.gcr = 0x00 := by rw [hend]; rfl
  refine ⟨t, u, ht, hu, hres, hidle, hsd, hgcr, by rw [hend]; rfl, ?_, fun k => ?_⟩
  · rw [globalVisible_normal hsd, scaling_maximum hgcr]
  · obtain ⟨hls, hla, hps, hpa⟩ := hend ▸ powerOnDev_operational s.params s.dev k
    exact ⟨hls, hla, hps, hpa, by rw [Dev.visible_enabled hsd hla, hpa]⟩

/-! POWER_OFF and SET_FREQUENCY: one frame (R97, R115). -/

theorem devAfter_powerOff (p : Params) (d : Dev) : devAfter p d powerOffFrames = d.writeShutdown 0x00 :=
  devAfterFrame_eq (delivers_shutdown p 0x00 d)

theorem devAfter_setFrequency (p : Params) (d : Dev) (sel : BitVec 1) :
    devAfter p d (setFrequencyFrames sel) = d.writeOutfreq (if sel = 1 then 0x01 else 0x00) :=
  devAfterFrame_eq (delivers_outfreq p _ d)

/-- Settles O37: the one frame is a Shutdown frame; DEV is as it was before it, or after it. -/
theorem powerOffDarkensAndKeeps : Obligations.PowerOffDarkensAndKeeps := by
  intro s a b hi ho
  have haccept := powerOff_accepts hi a b
  refine ⟨fun rest hr he => ?_, fun e rest hr he => ?_⟩
  · obtain ⟨t, u, ht, hu, hres, hidle, hdev⟩ := accepted_own_ok (n := 1) haccept rfl hi ho hr he
    rw [devAfter_powerOff] at hdev
    have hsd : u.dev.sd = vShutdown := by rw [hdev]; rfl
    exact ⟨t, u, ht, hu, hres, hidle, hdev, Dev.mode_shutdown hsd, outputsOff_of_shutdown hsd⟩
  · obtain ⟨t, u, ht, hu, hres, hidle, -, hdev⟩ := accepted_own_fail (j := 0) haccept Nat.zero_lt_one hi ho hr he
    exact ⟨t, u, ht, hu, hres, hidle, hdev⟩

/-- The carrier a selector's code stands for (R41, R115). -/
theorem carrier_of_selector {d : Dev} {sel : BitVec 1} (h : d.ofr = if sel = 1 then 0x01 else 0x00) :
    d.carrier = some (if sel = 1 then .high else .low) := by
  by_cases hs : sel = 1
  · rw [if_pos hs] at h ⊢
    exact carrier_high h
  · rw [if_neg hs] at h ⊢
    exact carrier_low h

/-- Settles O38: the one frame is an OutputFrequency frame. -/
theorem setFrequencySelectsCarrier : Obligations.SetFrequencySelectsCarrier := by
  intro s a rsv sel hi ho
  have haccept := setFrequency_accepts hi a rsv sel
  refine ⟨fun rest hr he => ?_, fun e rest hr he => ?_⟩
  · obtain ⟨t, u, ht, hu, hres, hidle, hdev⟩ := accepted_own_ok (n := 1) haccept rfl hi ho hr he
    rw [devAfter_setFrequency] at hdev
    have hofr : u.dev.ofr = if sel = 1 then 0x01 else 0x00 := by rw [hdev]; rfl
    have hcar := carrier_of_selector hofr
    refine ⟨t, u, ht, hu, hres, hidle, hdev, hcar, fun hm => ?_⟩
    have hsd : u.dev.sd = vNormal := by rw [hdev]; exact mode_eq_normal.mp hm
    rw [globalVisible_normal hsd, hcar, hdev]
    rfl
  · obtain ⟨t, u, ht, hu, hres, hidle, -, hdev⟩ := accepted_own_fail (j := 0) haccept Nat.zero_lt_one hi ho hr he
    exact ⟨t, u, ht, hu, hres, hidle, hdev⟩

/-! SET_PWM (R105). -/

/-- The first frame of SET_PWM stages the byte of its channel. -/
theorem delivers_setPwm (p : Params) (d : Dev) {c : Byte} (v : Byte) {k : Fin 28} (hk : k.val + 1 = c.toNat) :
    Delivers p (frameWord (BitVec.ofNat 8 (0x05 + (c.toNat - 1))) v) d (d.stagePwm k v) := by
  rw [← hk]
  exact delivers_pwm p k v d

theorem devAfter_setPwm_staged (p : Params) (d : Dev) {c : Byte} (v : Byte) {k : Fin 28} (hk : k.val + 1 = c.toNat) :
    devAfter p d ((setPwmFrames p c v).take 1) = d.stagePwm k v :=
  devAfterFrame_eq (delivers_setPwm p d v hk)

theorem devAfter_setPwm (p : Params) (d : Dev) {c : Byte} (v : Byte) {k : Fin 28} (hk : k.val + 1 = c.toNat) :
    devAfter p d (setPwmFrames p c v) = (d.stagePwm k v).latch := by
  refine Eq.trans (devAfter_append p d ((setPwmFrames p c v).take 1) _) ?_
  rw [devAfter_setPwm_staged p d v hk, devAfterFrame_eq (delivers_update ..)]

/-- The staged byte of the channel, and of every other. -/
theorem stagePwm_channel (d : Dev) {c : Byte} (v : Byte) {k : Fin 28} (hk : k.val + 1 = c.toNat) (j : Fin 28) :
    (d.stagePwm k v).pwmStaged[j] = if j.val + 1 = c.toNat then v else d.pwmStaged[j] := by
  have hj : j = k ↔ j.val + 1 = c.toNat := by rw [Fin.ext_iff]; omega
  simp only [Dev.stagePwm_getElem, hj]

/-- A channel in range is that of an index. -/
theorem exists_channel_index {c : Byte} (h1 : 1 ≤ c.toNat) (h28 : c.toNat ≤ 28) :
    ∃ k : Fin 28, k.val + 1 = c.toNat :=
  ⟨⟨c.toNat - 1, by omega⟩, by simp; omega⟩

/-- Settles O39: the channel's byte is staged, then all staged bytes are latched. -/
theorem setPwmStagesAndLatches : Obligations.SetPwmStagesAndLatches := by
  intro s c v rest h1 h28 hi ho hr he
  obtain ⟨k, hk⟩ := exists_channel_index h1 h28
  obtain ⟨t, u, ht, hu, hres, hidle, hdev⟩ :=
    accepted_own_ok (n := 2) (setPwm_accepts hi v h1 h28) rfl hi ho hr he
  rw [devAfter_setPwm s.params s.dev v hk] at hdev
  have hst := stagePwm_channel s.dev v hk
  refine ⟨t, u, ht, hu, hres, hidle, fun j => ?_, fun j hj hm hl => ?_, ?_, ?_, ?_⟩
  · rw [hdev]
    exact ⟨hst j, hst j, rfl, rfl⟩
  · rw [hdev, Dev.visible_enabled (d := (s.dev.stagePwm k v).latch) (mode_eq_normal.mp hm) hl]
    exact congrArg (fun b => some (Visible.on b)) ((hst j).trans (if_pos hj))
  · rw [hdev]; rfl
  · rw [hdev]; rfl
  · rw [hdev]; rfl

/-- Settles O40: of the two frames none, or the staging one, has reached DEV; neither shows. -/
theorem setPwmFailureIsNotVisible : Obligations.SetPwmFailureIsNotVisible := by
  intro s c v e rest h1 h28 hi ho hr
  obtain ⟨k, hk⟩ := exists_channel_index h1 h28
  have haccept := setPwm_accepts hi v h1 h28
  refine ⟨fun he => ?_, fun he => ?_⟩
  · obtain ⟨t, u, ht, hu, hres, hidle, -, hdev⟩ := accepted_own_fail (j := 0) haccept Nat.zero_lt_two hi ho hr he
    exact ⟨t, u, ht, hu, hres, hidle, hdev⟩
  · obtain ⟨t, u, ht, hu, hres, hidle, -, hdev⟩ := accepted_own_fail (j := 1) haccept Nat.one_lt_two hi ho hr he
    rw [devAfter_setPwm_staged s.params s.dev v hk] at hdev
    refine ⟨t, u, ht, hu, hres, hidle, fun j => ?_, ?_, fun j => ?_⟩
    · rw [hdev]
      exact stagePwm_channel s.dev v hk j
    · rw [hdev]
      rfl
    · rw [hdev]
      rfl

end Sys2Proof.Commands
end

section
/-! PROOFS. Within a command, whatever the outside world does (R89, R170): an invariant of the events between the ACCEPT
of a command and its result, for SEQ and its trace, and, on an exclusive bus, for DEV. -/

namespace Sys2Proof.Commands

open Sys2Proof.Machine Sys2Proof.Engine Sys2Proof.Frames Sys2Proof.Invariant Sys2Proof.Safety Sys2Proof.Claims

/-! Runs, from their last event. -/

theorem runSteps_last {n : Nat} : ∀ {s u : State}, runSteps (n + 1) s = .next u →
    ∃ v, runSteps n s = .next v ∧ step v = .next u := by
  induction n with
  | zero =>
    intro s u h
    obtain ⟨v, hv, hrun⟩ := runSteps_first h
    cases hrun
    exact ⟨s, rfl, hv⟩
  | succ n ih =>
    intro s u h
    obtain ⟨v, hv, hrun⟩ := runSteps_first h
    rw [runSteps_succ hv]
    exact ih hrun

/-- Results are only ever added (R14). -/
theorem runSteps_results_prefix {n : Nat} : ∀ {s u : State}, runSteps n s = .next u → s.results <+: u.results := by
  induction n with
  | zero =>
    intro s u h
    cases h
    exact List.prefix_refl _
  | succ n ih =>
    intro s u h
    obtain ⟨v, hv, hstep⟩ := runSteps_last h
    refine (ih hv).trans ?_
    obtain hr | ⟨r, hr, -⟩ := resultsEndCommands v u hstep
    · rw [hr]
    · exact ⟨[r], hr.symm⟩

/-- What never holds before any of the next `n + 1` events does not hold after `n` of them. -/
theorem not_of_neverIn {P : State → Prop} {n : Nat} :
    ∀ {s u : State}, NeverIn P (n + 1) s → runSteps n s = .next u → ¬ P u := by
  induction n with
  | zero =>
    rintro s u ⟨hs, -⟩ hu
    cases hu
    exact hs
  | succ n ih =>
    rintro s u ⟨-, hnext⟩ hu
    obtain ⟨v, hv, hrun⟩ := runSteps_first hu
    exact ih (hnext v hv) hrun

theorem neverIn_of_succ {P : State → Prop} {n : Nat} : ∀ {s : State}, NeverIn P (n + 1) s → NeverIn P n s := by
  induction n with
  | zero => exact fun _ => trivial
  | succ n ih => exact fun ⟨hs, h⟩ => ⟨hs, fun t ht => ih (h t ht)⟩

theorem exec_results_prefix {i : Instr} {s t : State} (h : exec i s = .next t) : s.results <+: t.results := by
  obtain ⟨d, rfl⟩ | ⟨-, ⟨op, a, v, n, rfl, -, -⟩ | ⟨c, v, -, -, rfl⟩⟩ := exec_next h
  · exact List.prefix_refl _
  · exact List.prefix_refl _
  · exact List.prefix_append ..

/-- Where no result has come yet, none had come an event before. -/
theorem within_succ {i : Instr} {s u : State} {n : Nat} (h : Within i s (n + 1) u) :
    ∃ v, Within i s n v ∧ step v = .next u ∧ u.results = v.results := by
  obtain ⟨hi, ⟨t, ht, hrun⟩, hres⟩ := h
  obtain ⟨v, hv, hstep⟩ := runSteps_last hrun
  have hsv : s.results <+: v.results := (exec_results_prefix ht).trans (runSteps_results_prefix hv)
  have hvu : v.results <+: s.results :=
    hres ▸ runSteps_results_prefix (n := 1) ((runSteps_succ (n := 0) hstep).trans rfl)
  have heq := hsv.eq_of_length (Nat.le_antisymm hsv.length_le hvu.length_le)
  exact ⟨v, ⟨hi, ⟨t, ht, hv⟩, heq.symm⟩, hstep, hres.trans heq⟩

/-! SEQ within a command. -/

/-- The answer BUS has given and SEQ has not taken. -/
def untaken (b : BusPhase) : List BusAnswer :=
  match b with
  | .answered a => [a]
  | .carrying _ _ => []
  | .quiet => []

/-- `u` is within a command taken up in state `s` whose frames are `L`: the first `step` of them have been answered
`ok`, and frame `step` has been issued where it is outstanding. -/
structure InCommand (s : State) (L : List FrameWord) (u : State) : Prop where
  engine : EngineOk u
  busy : u.seq.busy = true
  address : u.seq.address = s.seq.address
  params : u.params = s.params
  frames : Microsequence s.params u.seq.op u.seq.ch u.seq.val L
  results : u.results = s.results
  trace : u.trace = s.trace ++
    (L.take (u.seq.step.toNat + if u.seq.pend then 1 else 0)).map (fun f => ⟨s.seq.address, f⟩)
  answers : u.answers = s.answers ++ List.replicate u.seq.step.toNat .ok ++ untaken u.bus

/-- The ACCEPT. -/
theorem Accepts.inCommand {i : Instr} {F : Params → List FrameWord} {s t : State} (ha : Accepts i F s t) (hi : Idle s) :
    InCommand s (F s.params) t := by
  obtain ⟨-, -, hq⟩ := hi
  have hbus : t.bus = .quiet := by rw [ha.frame, hq]
  refine ⟨engineOk_between ha.pend hbus ha.operands, ha.busy, ha.address, by rw [ha.frame], ha.frames, by rw [ha.frame],
    ?_, ?_⟩
  · rw [ha.pend, ha.step, ha.frame]
    simp
  · rw [ha.step, hbus, ha.frame]
    simp [untaken]

/-- An event that leaves SEQ, the bus and the records alone. -/
theorem InCommand.of_untouched {s u v : State} {L : List FrameWord} (h : InCommand s L u) (hseq : v.seq = u.seq)
    (hbus : v.bus = u.bus) (hparams : v.params = u.params) (hres : v.results = u.results) (htrace : v.trace = u.trace)
    (hans : v.answers = u.answers) : InCommand s L v where
  engine := engineOk_congr hseq hbus hparams h.engine
  busy := hseq ▸ h.busy
  address := hseq ▸ h.address
  params := hparams.trans h.params
  frames := hseq ▸ h.frames
  results := hres.trans h.results
  trace := by rw [htrace, hseq]; exact h.trace
  answers := by rw [hans, hseq, hbus]; exact h.answers

/-- A SEQ with no frame outstanding has a quiet bus. -/
theorem InCommand.quiet {s u : State} {L : List FrameWord} (h : InCommand s L u) (hp : u.seq.pend = false) :
    u.bus = .quiet := by
  obtain ⟨-, -, hq, -⟩ := h.engine
  exact hq.mp hp

/-- ISSUE: one more frame in the trace. -/
theorem InCommand.issue {s u : State} {L : List FrameWord} {f : FrameWord} (h : InCommand s L u)
    (hp : u.seq.pend = false) (hu : uop u.params u.seq.op u.seq.step u.seq.ch u.seq.val = some f) :
    InCommand s L (afterIssue u f) := by
  obtain ⟨-, hops, -, -⟩ := h.engine
  refine ⟨engineOk_afterIssue h.busy (hops h.busy) hu, h.busy, h.address, h.params, h.frames, h.results, ?_, ?_⟩
  · have hf := h.frames.take_succ (h.params ▸ hu)
    have ht := h.trace
    rw [hp] at ht
    simp [afterIssue, ht, hf, h.address]
  · have ha := h.answers
    rw [h.quiet hp] at ha
    exact ha

/-- BUS's answer: one more in the record, not taken yet. -/
theorem InCommand.gotAnswer {s u : State} {L : List FrameWord} {d : BusAddr} {f : FrameWord} (h : InCommand s L u)
    (hp : u.seq.pend = true) (hc : u.bus = .carrying d f) (a : BusAnswer) (rest : List EnvEvent) :
    InCommand s L (u.gotAnswer a rest) := by
  refine ⟨engineOk_gotAnswer h.engine hp a rest, h.busy, h.address, h.params, h.frames, h.results, h.trace, ?_⟩
  have ha := h.answers
  rw [hc] at ha
  simp [ha, untaken]

/-- The `ok` to a frame before the last, taken: SEQ is between two frames again. -/
theorem InCommand.advance {s u : State} {L : List FrameWord} (h : InCommand s L u) (hp : u.seq.pend = true)
    (ha : u.bus = .answered .ok) (hne : u.seq.step ≠ lastStep u.seq.op) :
    InCommand s L { u with bus := .quiet, seq := { u.seq with pend := false, step := u.seq.step + 1 } } := by
  obtain ⟨-, hops, -, -⟩ := h.engine
  have hsucc := microStep_succ_toNat (step_toNat_lt (hops h.busy) hne)
  refine ⟨engineOk_between rfl rfl (operandsOk_succ (hops h.busy) hne), h.busy, h.address, h.params, h.frames,
    h.results, ?_, ?_⟩
  · have ht := h.trace
    rw [hp] at ht
    dsimp only
    rw [hsucc]
    exact ht
  · have han := h.answers
    rw [ha] at han
    dsimp only
    rw [hsucc, List.replicate_succ', han]
    simp [untaken]

/-- Every event within a command: the outside world acts on DEV or another device, SEQ issues a frame or takes an `ok`,
BUS answers, or nothing happens. -/
theorem InCommand.event_cases {s u v : State} {L : List FrameWord} (h : InCommand s L u) (hv : step u = .next v)
    (hr : v.results = u.results) :
    (∃ d f rest e, u.env = .foreign d f :: rest ∧ v = State.setDev { u with env := rest } e ∧
      (d ≠ u.params.strap → e = u.dev)) ∨
    (∃ rest, u.env = .devPowerOn :: rest ∧ v = State.setDev { u with env := rest } (devDefaults u.params)) ∨
    (∃ f, u.seq.pend = false ∧ uop u.params u.seq.op u.seq.step u.seq.ch u.seq.val = some f ∧
      v = afterIssue u.moving f) ∨
    (u.seq.pend = true ∧ u.bus = .answered .ok ∧ u.seq.step ≠ lastStep u.seq.op ∧
      v = { u.moving with bus := .quiet, seq := { u.seq with pend := false, step := u.seq.step + 1 } }) ∨
    (∃ d f rest e, u.seq.pend = true ∧ u.bus = .carrying d f ∧ v = (u.gotAnswer .ok rest).setDev e ∧
      (d = u.params.strap → ∃ i, decode (.bus16 f) = .ok i ∧ exec i (u.gotAnswer .ok rest) = .next v)) ∨
    (∃ d f e rest, u.seq.pend = true ∧ u.bus = .carrying d f ∧ v = u.gotAnswer (.fail e) rest) ∨
    v = u.moving := by
  have hbusy := h.busy
  rcases step_cases hv with ⟨d, f, rest, e, he, rfl, hd⟩ | ⟨rest, he, rfl⟩ | ⟨_, _, _, _, _, _, hb, -⟩ |
    ⟨_, _, hb, -⟩ | ⟨f, -, hp, hu, rfl⟩ | ⟨a, -, hp, ha, hx⟩ | ⟨d, f, rest, e, -, hp, hc, -, rfl, -, hx⟩ |
    ⟨d, f, e, rest, -, hp, hc, -, rfl⟩ | rfl
  · exact .inl ⟨d, f, rest, e, he, rfl, hd⟩
  · exact .inr (.inl ⟨rest, he, rfl⟩)
  · cases hb.symm.trans hbusy
  · cases hb.symm.trans hbusy
  · exact .inr (.inr (.inl ⟨f, hp, hu, rfl⟩))
  · obtain ⟨e, -, rfl⟩ | ⟨-, -, rfl⟩ | ⟨rfl, hne, rfl⟩ := respond_cases hx
    · simp at hr
    · simp at hr
    · exact .inr (.inr (.inr (.inl ⟨hp, ha, hne, rfl⟩)))
  · exact .inr (.inr (.inr (.inr (.inl ⟨d, f, rest, e, hp, hc, rfl, hx⟩))))
  · exact .inr (.inr (.inr (.inr (.inr (.inl ⟨d, f, e, rest, hp, hc, rfl⟩)))))
  · exact .inr (.inr (.inr (.inr (.inr (.inr rfl)))))

/-- Every event without a result keeps the invariant. -/
theorem InCommand.keeps {s u v : State} {L : List FrameWord} (h : InCommand s L u) (hv : step u = .next v)
    (hr : v.results = u.results) : InCommand s L v := by
  have hmv : InCommand s L u.moving := h.of_untouched rfl rfl rfl rfl rfl rfl
  rcases h.event_cases hv hr with ⟨_, _, _, _, -, rfl, -⟩ | ⟨_, -, rfl⟩ | ⟨f, hp, hu, rfl⟩ | ⟨hp, ha, hne, rfl⟩ |
    ⟨d, f, rest, e, hp, hc, rfl, -⟩ | ⟨d, f, e, rest, hp, hc, rfl⟩ | rfl
  · exact h.of_untouched rfl rfl rfl rfl rfl rfl
  · exact h.of_untouched rfl rfl rfl rfl rfl rfl
  · exact hmv.issue hp hu
  · exact hmv.advance hp ha hne
  · exact (h.gotAnswer hp hc .ok rest).of_untouched rfl rfl rfl rfl rfl rfl
  · exact h.gotAnswer hp hc (.fail e) rest
  · exact hmv

/-- The invariant holds within every command. -/
theorem inCommand_of_within {i : Instr} {F : Params → List FrameWord} {s t : State} (ha : Accepts i F s t) {n : Nat} :
    ∀ {u : State}, Within i s n u → InCommand s (F s.params) u := by
  induction n with
  | zero =>
    rintro u ⟨hi, ⟨t', ht, hrun⟩, -⟩
    cases ht.symm.trans ha.runs
    cases hrun
    exact ha.inCommand hi
  | succ n ih =>
    intro u h
    obtain ⟨v, hv, hstep, hres⟩ := within_succ h
    exact (ih hv).keeps hstep hres

/-- The event that ends the command: SEQ takes the answer to the last frame, or a failure. -/
theorem InCommand.ends {s u v : State} {L : List FrameWord} {r : Result} (h : InCommand s L u) (hv : step u = .next v)
    (hr : v.results = u.results ++ [r]) :
    v.trace = u.trace ∧ v.dev = u.dev ∧ u.seq.pend = true ∧
    (r = .ok ∧ u.bus = .answered .ok ∧ u.seq.step = lastStep u.seq.op ∨
      ∃ e, r = .busErr e ∧ u.bus = .answered (.fail e)) := by
  have hne : v.results ≠ u.results := by rw [hr]; simp
  obtain ⟨-, -, hquiet, -⟩ := h.engine
  rcases step_seq_cases hv with ⟨_, _, _, -, rfl⟩ | ⟨_, _, hb, -⟩ | ⟨_, -, -, rfl⟩ | ⟨a, ha, hx⟩ | hu
  · exact absurd rfl hne
  · cases hb.symm.trans h.busy
  · exact absurd rfl hne
  · have hp : u.seq.pend = true := Bool.eq_true_of_not_eq_false fun hp => by simp [hquiet.mp hp] at ha
    obtain ⟨-, htrace, -⟩ := respond_frame hx
    obtain ⟨-, -, hdev⟩ := respond_keeps hx
    refine ⟨htrace, hdev, hp, ?_⟩
    obtain ⟨e, rfl, rfl⟩ | ⟨rfl, hs, rfl⟩ | ⟨-, -, rfl⟩ := respond_cases hx
    · have hre : r = .busErr e := by simpa using hr.symm
      exact .inr ⟨e, hre, ha⟩
    · have hrok : r = .ok := by simpa using hr.symm
      exact .inl ⟨hrok, ha, hs⟩
    · exact absurd rfl hne
  · exact absurd hu.results hne

/-- At its last step a command has issued all its frames. -/
theorem InCommand.take_last {s u : State} {L : List FrameWord} (h : InCommand s L u)
    (hs : u.seq.step = lastStep u.seq.op) : L.take (u.seq.step.toNat + 1) = L := by
  rw [hs, ← h.frames.length, List.take_length]

/-- Settles O49: the invariant of the command, at every event and at the one that ends it. -/
theorem commandTraceOnAnyBus : Obligations.CommandTraceOnAnyBus := by
  refine everyCommand_of_accepts fun i F haccept s u n hw => ?_
  have ⟨hi, _, hres⟩ := hw
  obtain ⟨t, ha⟩ := haccept s hi
  have h := inCommand_of_within ha hw
  refine ⟨h.busy, h.address, h.trace, fun a hb => ?_, fun hn => ?_, fun v r hv hr => ?_⟩
  · rw [h.answers, hb, untaken]
  · rw [h.answers]
    cases hb : u.bus with
    | answered a => exact absurd hb (hn a)
    | carrying d f => simp [untaken]
    | quiet => simp [untaken]
  · obtain ⟨htrace, -, hp, ⟨rfl, -, hs⟩ | hfail⟩ := h.ends hv (by rw [hr, hres])
    · refine ⟨htrace, .inl ⟨rfl, ?_⟩⟩
      rw [htrace, h.trace, hp, if_pos rfl, h.take_last hs]
    · exact ⟨htrace, .inr hfail⟩

/-! DEV within a command, on an exclusive bus. -/

/-- DEV is as the frames answered `ok` left it. -/
def DevFollows (s : State) (L : List FrameWord) (u : State) : Prop :=
  u.dev = devAfter s.params s.dev (L.take (u.seq.step.toNat + if u.bus = .answered .ok then 1 else 0))

/-- A delivered frame changes DEV as `devAfterFrame` says. -/
theorem devAfterFrame_of_exec {f : FrameWord} {i : Instr} {s t : State} (hi : decode (.bus16 f) = .ok i)
    (h : exec i s = .next t) : t.dev = devAfterFrame s.params s.dev f := by
  obtain ⟨g, -, hx⟩ := exec_row (frameInstr_row (decode_bus16 hi)) h
  cases h.symm.trans (hx s rfl)
  simp only [devAfterFrame, hi, hx { State.reset with params := s.params, dev := s.dev } rfl, State.setDev_dev]

/-- Without a foreign frame for DEV and without its power-on, every event within a command keeps it so. -/
theorem DevFollows.keeps {s u v : State} {L : List FrameWord} (hd : DevFollows s L u) (h : InCommand s L u)
    (ho : s.seq.address = s.params.strap) (hv : step u = .next v) (hr : v.results = u.results)
    (hf : ¬ ForeignFrameNext u) (hpw : ¬ PowerOnNext u) : DevFollows s L v := by
  unfold DevFollows at hd ⊢
  rcases h.event_cases hv hr with ⟨d, f, rest, e, he, rfl, hde⟩ | ⟨rest, he, -⟩ | ⟨f, hp, hu, rfl⟩ |
    ⟨hp, ha, hne, rfl⟩ | ⟨d, f, rest, e, hp, hc, rfl, hx⟩ | ⟨d, f, e, rest, hp, hc, rfl⟩ | rfl
  · obtain rfl := hde fun hs => hf ⟨f, rest, hs ▸ he⟩
    exact hd
  · exact absurd ⟨rest, he⟩ hpw
  · rw [h.quiet hp] at hd
    exact hd
  · obtain ⟨-, hops, -, -⟩ := h.engine
    have hsucc := microStep_succ_toNat (step_toNat_lt (hops h.busy) hne)
    rw [ha] at hd
    dsimp only
    rw [hsucc]
    exact hd
  · obtain ⟨-, -, -, hcarry⟩ := h.engine
    obtain ⟨rfl, hu⟩ := hcarry d f hc
    obtain ⟨i, hi, hxi⟩ := hx (by rw [h.address, h.params, ho])
    rw [hc] at hd
    have hnext := devAfterFrame_of_exec hi hxi
    rw [State.gotAnswer_params, State.gotAnswer_dev, h.params, hd] at hnext
    refine hnext.trans ?_
    rw [← devAfter_append]
    exact congrArg _ (h.frames.take_succ (h.params ▸ hu)).symm
  · rw [hc] at hd
    exact hd
  · exact hd

/-- It is so within every command, at each of the `n` events on which the bus is exclusive and DEV stays powered. -/
theorem devFollows_of_within {i : Instr} {F : Params → List FrameWord} {s t : State} (ha : Accepts i F s t)
    (ho : s.seq.address = s.params.strap) {n : Nat} : ∀ {u : State}, Within i s n u → ExclusiveBus n t →
      StaysPowered n t → DevFollows s (F s.params) u := by
  induction n with
  | zero =>
    rintro u ⟨hi, ⟨t', ht, hrun⟩, -⟩ - -
    cases ht.symm.trans ha.runs
    cases hrun
    obtain ⟨-, -, hq⟩ := hi
    unfold DevFollows
    rw [ha.step, ha.frame, hq]
    rfl
  | succ n ih =>
    intro u hw hx hp
    obtain ⟨v, hv, hstep, hres⟩ := within_succ hw
    have ⟨_, ⟨t', ht, hrun⟩, _⟩ := hv
    cases ht.symm.trans ha.runs
    exact (ih hv (neverIn_of_succ hx) (neverIn_of_succ hp)).keeps (inCommand_of_within ha hv) ho hstep hres
      (not_of_neverIn hx hrun) (not_of_neverIn hp hrun)

/-- Settles O50: DEV follows the frames answered `ok`; the event that ends the command leaves it. -/
theorem commandDevOnExclusiveBus : Obligations.CommandDevOnExclusiveBus := by
  refine everyCommand_of_accepts fun i F haccept s t u n hw ht ho hx hp => ?_
  have ⟨hi, _, hres⟩ := hw
  obtain ⟨t', ha⟩ := haccept s hi
  cases ht.symm.trans ha.runs
  have h := inCommand_of_within ha hw
  have hd : DevFollows s (F s.params) u := devFollows_of_within ha ho hw hx hp
  refine ⟨hd, fun v r hv hr => ?_⟩
  unfold DevFollows at hd
  obtain ⟨-, hdev, -, ⟨rfl, hb, hs⟩ | ⟨e, rfl, hb⟩⟩ := h.ends hv (by rw [hr, hres])
  · rw [hb, if_pos rfl, h.take_last hs] at hd
    exact ⟨fun _ => hdev.trans hd, nofun⟩
  · rw [hb, if_neg (by simp)] at hd
    exact ⟨nofun, fun _ _ => hdev.trans hd⟩

end Sys2Proof.Commands
end
